-- ==== Sys2Proof/Word.lean ====
section
/-! DEFINITION. The widths of the block: samples, latch bytes, 16-bit working registers and 64-bit
instruction words (10_state.md R20, 30_encoding.md R90). -/

namespace Sys2Proof

/-- One quantised voltage level, a 16-bit unsigned number (00_scope.md R16). -/
abbrev Sample := BitVec 16

/-- One byte: the field latch, a brightness, a mode identifier (10_state.md R28). -/
abbrev Byte := BitVec 8

/-- A 16-bit working register or descriptor field (10_state.md R22 to R24). -/
abbrev Reg := BitVec 16

/-- One instruction word of either format, `D64` or `H64` (30_encoding.md R90). -/
abbrev Word := BitVec 64

end Sys2Proof
end

