-- ==== Sys2Proof/Config.lean ====
section
/-! DEFINITION. What is fixed for the life of the hardware (10_state.md R21): the constants the source
fixes (R6), the configuration record of the open parameters (R7), its well-formedness (R8, R124, R125),
the derived constants (R10), the example configuration EX (95_test_vectors.md section 0) and the model's
two free values. -/

namespace Sys2Proof

/-- `N`, length of the descriptor chain (R6). -/
abbrev numDescriptors : Nat := 436
/-- `H`, number of frame-buffer rows (R6). -/
abbrev height : Nat := 24
/-- `REPEAT`, consecutive scan lines per field that show one row (R6). -/
abbrev repeatFactor : Nat := 9
/-- `IDX_MARK_ODD` (R6). -/
abbrev idxMarkOdd : Nat := 217
/-- `IDX_TT_EVEN` (R6). -/
abbrev idxTtEven : Nat := 218
/-- `IDX_EVEN_ROW0` (R10). -/
abbrev idxEvenRow0 : Nat := 219
/-- `IDX_MARK_EVEN` (R6). -/
abbrev idxMarkEven : Nat := 435
/-- `LINE_SYNC`, sync samples at the start of a line (R6). -/
abbrev lineSync : Nat := 4
/-- `LINE_PORCH`, blank samples after the sync samples of an active line (R6). -/
abbrev linePorch : Nat := 5
/-- `LINE_TAIL`, trailing blank samples of an active line (R6). -/
abbrev lineTail : Nat := 1
/-- `ODD_MARKER` (R6). -/
abbrev oddMarker : Byte := 1
/-- `EVEN_MARKER` (R6). -/
abbrev evenMarker : Byte := 2

/-- What a draw before the first successful BEGIN does: the parameter `earlyDraw` of
93_implementation_defined.md U4. `noop` follows R148. -/
inductive EarlyDraw where
  | noop
  | fault
  deriving DecidableEq, Repr

/-- The open parameters (R7), under the spec's names. -/
structure Config where
  /-- logical pixels per row, unrotated -/
  W : Nat
  /-- pixel clocks per scan line, the row stride -/
  R : Nat
  /-- horizontal offset of the visible window inside a row -/
  X : Nat
  /-- pixel-clock period in edges of `clk` -/
  P : Nat
  /-- `SYNC` -/
  sync : Sample
  /-- `BLANK` -/
  blank : Sample
  /-- `BLACK` -/
  black : Sample
  /-- `WHITE` -/
  white : Sample
  /-- `EQ_HALF` (R124) -/
  eqHalf : List Sample
  /-- `SERR_HALF` (R125) -/
  serrHalf : List Sample
  /-- `MODE_ID` -/
  modeId : Byte
  /-- parameter of U4 -/
  earlyDraw : EarlyDraw
  deriving DecidableEq, Repr

namespace Config

/-- `HALF` (R10). -/
def half (c : Config) : Nat := c.R / 2
/-- `LEN_ODD` (R10). -/
def lenOdd (c : Config) : Nat := 46 * c.R
/-- `LEN_EVEN` (R10). -/
def lenEven (c : Config) : Nat := 47 * c.R
/-- `FB_SIZE` (R10). -/
def fbSize (c : Config) : Nat := height * c.R
/-- `BEATS_PER_FRAME` (R10). -/
def beatsPerFrame (c : Config) : Nat := 525 * c.R + 2
/-- `SPAN` (R10). -/
def span (c : Config) : Nat := c.white.toNat - c.black.toNat

/-- Every sample of a half-line is `SYNC` or `BLANK`, and it has the width of a half-line
(the constraints R124 and R125 share). -/
abbrev HalfLine (c : Config) (l : List Sample) : Prop :=
  l.length = c.half ∧ (l.all fun x => x == c.sync || x == c.blank) = true

/-- A well-formed configuration (R8, with the shapes of R124 and R125). -/
abbrev WF (c : Config) : Prop :=
  (1 ≤ c.W ∧ c.W < c.R ∧ c.X + c.W ≤ c.R) ∧
  (c.R % 2 = 0 ∧ 11 ≤ c.R ∧ c.R ≤ 1394) ∧
  (1 ≤ c.P ∧ c.P ≤ 65536) ∧
  (c.sync.toNat < c.blank.toNat ∧ c.blank.toNat < c.black.toNat ∧ c.black.toNat < c.white.toNat) ∧
  (c.HalfLine c.eqHalf ∧ c.half < 2 * c.eqHalf.count c.blank ∧ c.sync ∈ c.eqHalf) ∧
  (c.HalfLine c.serrHalf ∧ c.half < 2 * c.serrHalf.count c.sync ∧ c.blank ∈ c.serrHalf)

/-- `WindowInsideInterior` (R9): a premise of claims, no rule assumes it. -/
abbrev WindowInsideInterior (c : Config) : Prop := 9 ≤ c.X ∧ c.X + c.W ≤ c.R - 1

/-- The example configuration EX of 95_test_vectors.md section 0 (D29). It is not the repository's
configuration; DESIGN CHOICE as the configuration `State.reset` carries, unsafe, log entry 1. -/
def ex : Config where
  W := 40
  R := 56
  X := 12
  P := 54
  sync := 16
  blank := 220
  black := 260
  white := 960
  eqHalf := List.replicate 2 16 ++ List.replicate 26 220
  serrHalf := List.replicate 24 16 ++ List.replicate 4 220
  modeId := 0
  earlyDraw := .noop

/-- FREE VALUE: the word an `undef` descriptor is taken to hold when the advance loads `BCNT` and
`SPTR` from it (R164, U3); the argument is the number of free values drawn before. Safe, log entry 6. -/
opaque undefDescriptor : Nat → Word

/-- FREE VALUE: who moves while a CLEAR is in progress and the inputs list is empty: `none` the engine,
`some k` the store of the `k`-th pending offset (R149, U12, U16). Safe, log entry 3. -/
opaque idleStore : Nat → Option Nat

end Config

end Sys2Proof
end

