-- ==== Sys2Proof/Machine/State.lean ====
section
/-! DEFINITION. The state of the block, every element of 10_state.md R20, as plain data; the ports the
rules write or sample (00_scope.md R12); the script of outside moves; and the state after reset (R39). -/

namespace Sys2Proof.Machine

/-- A memory of `w`-bit elements, addressed by element (20_memory.md R60, D8): (address, element) pairs
with strictly rising addresses. An unlisted address is `undef` (R14, R39): it reads as no value at all,
so no listed value could equal it. Log entry 4. -/
abbrev Memory (w : Nat) := List (Nat × BitVec w)

/-- The canonical form of a memory: addresses strictly rising (so none is listed twice). -/
abbrev Memory.wf {w : Nat} (m : Memory w) : Prop := (m.map Prod.fst).Pairwise (· < ·)

/-- What is observable (00_scope.md R13): DAC writes, pixel ticks (so also the ticks without a DAC
write) and response words. -/
inductive Obs where
  /-- a pixel tick -/
  | tick
  /-- a video beat wrote this sample to the DAC -/
  | dac (v : Sample)
  /-- a response word -/
  | rsp (v : BitVec 16)
  deriving DecidableEq, Repr

/-- One move, with everything the outside world or an open choice decides about it (R5, R12, R71). -/
inductive Input where
  /-- a rising edge of `clk` with `rst = 0`: the engine's step (R181) -/
  | edge
  /-- the host presents a command word; `dmaAvail`, `memAvail` are the two inputs on that edge, which a
  BEGIN that may start the engine samples (R12, R203) -/
  | command (word : Word) (dmaAvail memAvail : Bool)
  /-- one store of the CLEAR in progress; `k` draws which pending offset is stored (R149, U12) -/
  | clearStore (k : Nat)
  /-- a rising edge with `rst = 1`; `dac` draws what `DAC_OUT` then holds (R245, U2) -/
  | reset (dac : Sample)
  deriving DecidableEq, Repr

/-- Which agent has acted on the current edge of `clk`. On one edge the engine takes its step and at most
one command is accepted, in either order (R12, R71, U16; log entry 24). The edge of the BEGIN that starts the
engine is over with it (R183). -/
inductive EdgeSlot where
  /-- neither: the last edge is over -/
  | fresh
  /-- the engine: a command can still be accepted on this edge -/
  | engineDone
  /-- the host, by a command or a store of a CLEAR: the engine's step of this edge is still to come -/
  | hostDone
  deriving DecidableEq, Repr

/-- The state of the block. -/
structure State where
  /-- The configuration (R21): no step changes it. -/
  cfg : Config
  /-- `BOUND` (R29) -/
  bound : Bool
  /-- `BEGUN` (R29) -/
  begun : Bool
  /-- `RUN` (R29) -/
  run : Bool
  /-- `FAULT` (R29) -/
  fault : Bool
  /-- `DIDX` (R22) -/
  didx : Reg
  /-- `BCNT` (R23) -/
  bcnt : Reg
  /-- `SPTR` (R24) -/
  sptr : Reg
  /-- `DIV` (R26) -/
  div : Reg
  /-- `DAC_OUT` (R27), shown on the `dac_data` port -/
  dacOut : Sample
  /-- `FIELD_LATCH` (R28), shown on the `field_latch` port -/
  fieldLatch : Byte
  /-- `FB` (R31) -/
  fb : Memory 16
  /-- `CHAIN` (R32) -/
  chain : Memory 64
  /-- `CLR_BUSY` (R34); `cmd_ready` is its negation -/
  clrBusy : Bool
  /-- `CLR_PEND` (R34), a set of offsets held as a rising list -/
  clrPend : List Nat
  /-- input port `dma_avail` as the last BEGIN that sampled it found it (R12, R203) -/
  dmaAvail : Bool
  /-- input port `mem_avail` as the last BEGIN that sampled it found it (R12, R203) -/
  memAvail : Bool
  /-- output port `rsp_valid`, a pulse of the current edge, or of the last where `slot` is `fresh` (R12) -/
  rspValid : Bool
  /-- output port `rsp` (R12, R216), holding the last response word until the next (DESIGN CHOICE, log entry 8) -/
  rsp : BitVec 16
  /-- output port `dac_wr`, a pulse of the same edge (R12) -/
  dacWr : Bool
  /-- output port `pix_tick`, a pulse of the same edge (R12) -/
  pixTick : Bool
  /-- The model's own: the moves to come, the next first (log entry 2). -/
  inputs : List Input
  /-- The model's own: who has acted on the current edge (R12, log entry 24). -/
  slot : EdgeSlot
  /-- The model's own: the observations so far, the newest first (R13, R15, log entry 15). -/
  trace : List Obs
  /-- The model's own: how many free values were drawn (log entry 3). -/
  draws : Nat
  deriving DecidableEq, Repr

/-- Why the machine stops. -/
inductive Fault where
  /-- SET_PIXEL or CLEAR before the first successful BEGIN under a configuration whose parameter
  `earlyDraw` is `fault` (U4); raised by those two. Safe: the hardware goes on. -/
  | earlyDraw
  /-- SET_PIXEL computed an offset outside `FB` (R61), possible only under an ill-formed configuration,
  which the step refuses; raised by SET_PIXEL. Safe. -/
  | storeOutOfRange
  deriving DecidableEq, Repr

/-- Why the model gives a step no meaning. -/
inductive Refusal where
  /-- an instruction without a meaning yet; raised by no arm now. Safe. -/
  | notModelled (mnemonic : String)
  /-- the configuration breaks a constraint of R8, R124 or R125 (U6); raised by the step. Safe. -/
  | illFormedConfig
  deriving DecidableEq, Repr

/-- The state right after reset of a block with configuration `c`, `dac` being what `DAC_OUT` happens to
hold (R39, R245, R247; U2). -/
def State.resetWith (c : Config) (dac : Sample) : State where
  cfg := c
  bound := false
  begun := false
  run := false
  fault := false
  didx := 0
  bcnt := 0
  sptr := 0
  div := 0
  dacOut := dac
  fieldLatch := 0
  fb := []
  chain := []
  clrBusy := false
  clrPend := []
  dmaAvail := false
  memAvail := false
  rspValid := false
  rsp := 0
  dacWr := false
  pixTick := false
  inputs := []
  slot := .fresh
  trace := []
  draws := 0

/-- The reset state the host's interface asks for: the example configuration EX (DESIGN CHOICE, unsafe,
log entry 1) and 0 as the draw of `DAC_OUT` (DESIGN CHOICE, unsafe, log entry 7). Statements are made
about `State.resetWith`, for every configuration and every draw. -/
def State.reset : State := State.resetWith Config.ex 0

end Sys2Proof.Machine
end

