-- ==== Sys2Proof/Syntax.lean ====
section
/-! DEFINITION. The two instruction sets as one inductive: the five descriptor kinds of `D64`
(30_encoding.md R94) and the seven host commands of `H64` (R101). -/

namespace Sys2Proof

/-- The `ROT` field of SET_PIXEL (30_encoding.md R100). -/
inductive Rotation where
  | deg0
  | deg90
  | deg180
  | deg270
  deriving DecidableEq, Repr

/-- One constructor per row of spec/opcode_table.json. A descriptor kind carries the fields its row
leaves free (R98); a host command carries the fields it uses (R101), the others being ignored (R103). -/
inductive Instr where
  /-- `XFER_TT_ODD` (R131): `COUNT`, `NEXT`. -/
  | xferTtOdd (count next : Reg)
  /-- `XFER_TT_EVEN` (R132): `COUNT`, `NEXT`. -/
  | xferTtEven (count next : Reg)
  /-- `XFER_ROW` (R147): `COUNT`, `SRCOFF`, `NEXT`. -/
  | xferRow (count srcoff next : Reg)
  /-- `MARK_ODD` (R191): `NEXT`. -/
  | markOdd (next : Reg)
  /-- `MARK_EVEN` (R192): `NEXT`. -/
  | markEven (next : Reg)
  /-- `CREATE` (R201): the mode in `VAL`. -/
  | create (mode : Byte)
  /-- `BEGIN` (R202). -/
  | begin
  /-- `STOP` (R207). -/
  | stop
  /-- `SET_PIXEL` (R142): `ROT`, `X` and `Y` as raw 16-bit fields (R102), brightness in `VAL`. -/
  | setPixel (rot : Rotation) (x y : Reg) (brightness : Byte)
  /-- `CLEAR` (R146). -/
  | clear
  /-- `SET_FIELD_HINT` (R193): the value in `VAL`. -/
  | setFieldHint (value : Byte)
  /-- `GET_FIELD` (R194). -/
  | getField
  deriving DecidableEq, Repr

/-- Is the instruction a descriptor (format `D64`), not a host command (format `H64`) (R90)? -/
def Instr.isDescriptor : Instr → Bool
  | .xferTtOdd _ _ | .xferTtEven _ _ | .xferRow _ _ _ | .markOdd _ | .markEven _ => true
  | .create _ | .begin | .stop | .setPixel _ _ _ _ | .clear | .setFieldHint _ | .getField => false

end Sys2Proof
end

