-- ==== Sys2Proof/WellFormed.lean ====
section
/-! DEFINITION. Well-formedness of an instruction under a configuration (30_encoding.md R95): the
conditions that are left after the opcode-table row is selected (R98). -/

namespace Sys2Proof

/-- `NEXT < N` (R95). -/
abbrev NextOk (next : Reg) : Prop := next.toNat < numDescriptors

/-- `COUNT` is the length the kind prescribes (R95). -/
abbrev CountOk (count : Reg) (len : Nat) : Prop := count.toNat = len

/-- `SRCOFF` is the start of an existing row: a multiple of `R` whose quotient is below `H` (R95). -/
abbrev RowOk (c : Config) (srcoff : Reg) : Prop :=
  srcoff.toNat % c.R = 0 ∧ srcoff.toNat / c.R < height

/-- Well-formedness (R95). A host command has no condition of its own: every value of every field it
uses is legal (R102). -/
def Instr.wellFormed (c : Config) : Instr → Bool
  | .xferTtOdd count next => decide (CountOk count c.lenOdd ∧ NextOk next)
  | .xferTtEven count next => decide (CountOk count c.lenEven ∧ NextOk next)
  | .xferRow count srcoff next => decide (CountOk count c.R ∧ RowOk c srcoff ∧ NextOk next)
  | .markOdd next => decide (NextOk next)
  | .markEven next => decide (NextOk next)
  | .create _ | .begin | .stop | .setPixel _ _ _ _ | .clear | .setFieldHint _ | .getField => true

end Sys2Proof
end

