-- ==== Sys2Proof/Decode.lean ====
section
/-! DEFINITION. The bit layouts of `D64` (30_encoding.md R92) and `H64` (R100), the two decoders, total
and rejecting by name (R96, R97, R103), and the encoder (R94, R101). -/

namespace Sys2Proof

/-! ### Fields -/

/-- `d[63:48]`: `SRC`, `DST`, `WIDTH`, `SRCINC`, `DSTINC`, `RSV` of a descriptor (R92). -/
def dTop (d : Word) : BitVec 16 := d.extractLsb' 48 16
/-- `SRC`, `d[63:62]` (R92). -/
def dSrc (d : Word) : BitVec 2 := d.extractLsb' 62 2
/-- `DST`, `d[61]` (R92): 0 the DAC, 1 the latch. -/
def dDst (d : Word) : BitVec 1 := d.extractLsb' 61 1
/-- `WIDTH`, `d[60]` (R92): 0 a beat of 8 bits, 1 of 16. -/
def dWidth (d : Word) : BitVec 1 := d.extractLsb' 60 1
/-- `SRCINC`, `d[59]` (R92). -/
def dSrcinc (d : Word) : BitVec 1 := d.extractLsb' 59 1
/-- `DSTINC`, `d[58]` (R92). -/
def dDstinc (d : Word) : BitVec 1 := d.extractLsb' 58 1
/-- `d[63:58]`: the five flag fields of a descriptor (R95). -/
def dKind (d : Word) : BitVec 6 := d.extractLsb' 58 6
/-- `RSV`, `d[57:48]` (R92). -/
def dRsv (d : Word) : BitVec 10 := d.extractLsb' 48 10
/-- `COUNT`, `d[47:32]` (R92). -/
def dCount (d : Word) : Reg := d.extractLsb' 32 16
/-- `SRCOFF`, `d[31:16]` (R92). -/
def dSrcoff (d : Word) : Reg := d.extractLsb' 16 16
/-- `NEXT`, `d[15:0]` (R92). -/
def dNext (d : Word) : Reg := d.extractLsb' 0 16
/-- `IMM8`, `d[23:16]` (R93). -/
def dImm8 (d : Word) : Byte := d.extractLsb' 16 8

/-- `OP`, `w[63:60]` (R100). -/
def hOp (w : Word) : BitVec 4 := w.extractLsb' 60 4
/-- `ROT`, `w[59:58]` (R100). -/
def hRot (w : Word) : BitVec 2 := w.extractLsb' 58 2
/-- `RSV`, `w[57:40]` (R100). -/
def hRsv (w : Word) : BitVec 18 := w.extractLsb' 40 18
/-- `X`, `w[39:24]` (R100). -/
def hX (w : Word) : Reg := w.extractLsb' 24 16
/-- `Y`, `w[23:8]` (R100). -/
def hY (w : Word) : Reg := w.extractLsb' 8 16
/-- `VAL`, `w[7:0]` (R100). -/
def hVal (w : Word) : Byte := w.extractLsb' 0 8

/-- The rotation a `ROT` field names (R100). -/
def rotationOf (r : BitVec 2) : Rotation :=
  if r = 0 then .deg0 else if r = 1 then .deg90 else if r = 2 then .deg180 else .deg270

/-- The `ROT` field of a rotation (R100). -/
def rotationBits : Rotation → BitVec 2
  | .deg0 => 0
  | .deg90 => 1
  | .deg180 => 2
  | .deg270 => 3

/-! ### Decoders -/

/-- Why a word is rejected. -/
inductive DecodeError where
  /-- the word matches no row of its format (R96: unknown kind or flags; R103: reserved `OP`) -/
  | noSuchRow
  /-- a reserved field is not 0 (R96, R103) -/
  | reservedBits
  /-- `NEXT` is not below `N` (R96) -/
  | nextOutOfRange
  /-- `COUNT` is not the count of the kind (R96) -/
  | wrongCount
  /-- `SRCOFF` is not one the kind allows (R96) -/
  | wrongSource
  deriving DecidableEq, Repr

/-- The row a descriptor word selects (the match and mask of R98), with the row's free fields. The
conditions on those fields are `Instr.wellFormed`. -/
def decodeDescriptor (d : Word) : Except DecodeError Instr :=
  if dTop d = 0x1800 ∧ dSrcoff d = 0 then .ok (.xferTtOdd (dCount d) (dNext d))
  else if dTop d = 0x5800 ∧ dSrcoff d = 0 then .ok (.xferTtEven (dCount d) (dNext d))
  else if dTop d = 0x9800 then .ok (.xferRow (dCount d) (dSrcoff d) (dNext d))
  else if dTop d = 0xE000 ∧ dCount d = 1 ∧ dSrcoff d = 1 then .ok (.markOdd (dNext d))
  else if dTop d = 0xE000 ∧ dCount d = 1 ∧ dSrcoff d = 2 then .ok (.markEven (dNext d))
  else .error .noSuchRow

/-- `decodeD`, as R97 writes it: the five kinds, every other word illegal. -/
def decodeD (c : Config) (d : Word) : Except DecodeError Instr :=
  if dRsv d ≠ 0 then .error .reservedBits
  else if ¬ NextOk (dNext d) then .error .nextOutOfRange
  else if dKind d = 0b000110 then
    if dSrcoff d ≠ 0 then .error .wrongSource
    else if CountOk (dCount d) c.lenOdd then .ok (.xferTtOdd (dCount d) (dNext d))
    else .error .wrongCount
  else if dKind d = 0b010110 then
    if dSrcoff d ≠ 0 then .error .wrongSource
    else if CountOk (dCount d) c.lenEven then .ok (.xferTtEven (dCount d) (dNext d))
    else .error .wrongCount
  else if dKind d = 0b100110 then
    if ¬ CountOk (dCount d) c.R then .error .wrongCount
    else if RowOk c (dSrcoff d) then .ok (.xferRow (dCount d) (dSrcoff d) (dNext d))
    else .error .wrongSource
  else if dKind d = 0b111000 then
    if dCount d ≠ 1 then .error .wrongCount
    else if dSrcoff d = 1 then .ok (.markOdd (dNext d))
    else if dSrcoff d = 2 then .ok (.markEven (dNext d))
    else .error .wrongSource
  else .error .noSuchRow

/-- A host command word (R101); a reserved `OP` or a non-zero `RSV` is illegal (R103), a field the
command does not use is ignored. -/
def decodeCommand (w : Word) : Except DecodeError Instr :=
  if hRsv w ≠ 0 then .error .reservedBits
  else if hOp w = 0 then .ok (.create (hVal w))
  else if hOp w = 1 then .ok .begin
  else if hOp w = 2 then .ok .stop
  else if hOp w = 3 then .ok (.setPixel (rotationOf (hRot w)) (hX w) (hY w) (hVal w))
  else if hOp w = 4 then .ok .clear
  else if hOp w = 5 then .ok (.setFieldHint (hVal w))
  else if hOp w = 6 then .ok .getField
  else .error .noSuchRow

/-! ### Encoder -/

/-- `SRC ++ DST ++ WIDTH ++ SRCINC ++ DSTINC ++ RSV ++ COUNT ++ SRCOFF ++ NEXT` (R92). -/
def encodeD64 (src : BitVec 2) (dst width srcinc dstinc : BitVec 1) (count srcoff next : Reg) : Word :=
  src ++ dst ++ width ++ srcinc ++ dstinc ++ (0 : BitVec 10) ++ count ++ srcoff ++ next

/-- `OP ++ ROT ++ RSV ++ X ++ Y ++ VAL` (R100). -/
def encodeH64 (op : BitVec 4) (rot : BitVec 2) (x y : Reg) (val : Byte) : Word :=
  op ++ rot ++ (0 : BitVec 18) ++ x ++ y ++ val

/-- The word of an instruction (R94, R101); a field the instruction does not use is 0 (R106). -/
def encode : Instr → Word
  | .xferTtOdd count next => encodeD64 0b00 0 1 1 0 count 0 next
  | .xferTtEven count next => encodeD64 0b01 0 1 1 0 count 0 next
  | .xferRow count srcoff next => encodeD64 0b10 0 1 1 0 count srcoff next
  | .markOdd next => encodeD64 0b11 1 0 0 0 1 0x0001 next
  | .markEven next => encodeD64 0b11 1 0 0 0 1 0x0002 next
  | .create mode => encodeH64 0 0 0 0 mode
  | .begin => encodeH64 1 0 0 0 0
  | .stop => encodeH64 2 0 0 0 0
  | .setPixel rot x y brightness => encodeH64 3 (rotationBits rot) x y brightness
  | .clear => encodeH64 4 0 0 0 0
  | .setFieldHint value => encodeH64 5 0 0 0 value
  | .getField => encodeH64 6 0 0 0 0

/-! ### Words numbered as the opcode table numbers them -/

/-- The 64-bit word whose table bits are `w`, every bit above `nbits` 0; none where the bits do not fit. -/
def tableWord (nbits w : Nat) : Option Word :=
  if nbits ≤ 64 ∧ w < 2 ^ nbits then some (BitVec.ofNat 64 w) else none

/-- The instruction of a table word. The table does not say the format; a word that matches a `D64` row
is read as that row, every other as a command. The machine itself never mixes the formats
(R90). DESIGN CHOICE, log entry 16. -/
def decodeTableWord (nbits w : Nat) : Option Instr :=
  match tableWord nbits w with
  | none => none
  | some word =>
    match decodeDescriptor word with
    | .ok i => some i
    | .error _ =>
      match decodeCommand word with
      | .ok i => some i
      | .error _ => none

/-! ### One word per constructor, written out from the encodings of 95_test_vectors.md 2.1 and 2.2 -/

theorem decode_xferTtOdd_word :
    decodeDescriptor 0x18000A1000000001#64 = .ok (.xferTtOdd 2576 1) := by decide +kernel
theorem decode_xferTtEven_word :
    decodeDescriptor 0x58000A48000000DB#64 = .ok (.xferTtEven 2632 219) := by decide +kernel
theorem decode_xferRow_word :
    decodeDescriptor 0x98000038050800D9#64 = .ok (.xferRow 56 1288 217) := by decide +kernel
theorem decode_markOdd_word :
    decodeDescriptor 0xE0000001000100DA#64 = .ok (.markOdd 218) := by decide +kernel
theorem decode_markEven_word :
    decodeDescriptor 0xE000000100020000#64 = .ok (.markEven 0) := by decide +kernel
theorem decode_create_word :
    decodeCommand 0x0000000000000001#64 = .ok (.create 1) := by decide +kernel
theorem decode_begin_word :
    decodeCommand 0x1000000027001780#64 = .ok .begin := by decide +kernel
theorem decode_stop_word :
    decodeCommand 0x2000000000000000#64 = .ok .stop := by decide +kernel
theorem decode_setPixel_word :
    decodeCommand 0x34000000170027FF#64 = .ok (.setPixel .deg90 23 39 255) := by decide +kernel
theorem decode_clear_word :
    decodeCommand 0x4C00000000000000#64 = .ok .clear := by decide +kernel
theorem decode_setFieldHint_word :
    decodeCommand 0x5000000000000002#64 = .ok (.setFieldHint 2) := by decide +kernel
theorem decode_getField_word :
    decodeCommand 0x6000000000000000#64 = .ok .getField := by decide +kernel

end Sys2Proof
end

