-- ==== Sys2Proof/Machine/Tables.lean ====
section
/-! DEFINITION. What the configuration determines: the line patterns and the two timing tables
(40_timing_tables.md), the active-line pattern (R122) and the descriptor chain (42_descriptor_chain.md). -/

namespace Sys2Proof.Machine

/-- `rep(n, L)` of R14: list `l` repeated `n` times. -/
def rep {α : Type} : Nat → List α → List α
  | 0, _ => []
  | n + 1, l => l ++ rep n l

/-- `BLANK_LINE` (R121). -/
def blankLine (c : Config) : List Sample :=
  List.replicate lineSync c.sync ++ List.replicate (c.R - lineSync) c.blank

/-- `ACTIVE_LINE` (R122). -/
def activeLine (c : Config) : List Sample :=
  List.replicate lineSync c.sync ++ List.replicate linePorch c.blank
    ++ List.replicate (c.R - 10) c.black ++ List.replicate lineTail c.blank

/-- `ACTIVE_LINE[col]` by index (R122). -/
def activeSample (c : Config) (col : Nat) : Sample :=
  if col ≤ 3 then c.sync
  else if col ≤ 8 then c.blank
  else if col ≤ c.R - 2 then c.black
  else c.blank

/-- `MIXED_LINE` (R126, the reading of 90_conflicts.md C6 and D17). -/
def mixedLine (c : Config) : List Sample :=
  List.replicate lineSync c.sync ++ List.replicate (c.half - lineSync) c.blank ++ c.eqHalf

/-- `TT_ODD` (R127). -/
def ttOdd (c : Config) : List Sample :=
  rep 16 (blankLine c) ++ rep 6 c.eqHalf ++ rep 6 c.serrHalf ++ rep 6 c.eqHalf
    ++ rep 11 (blankLine c) ++ rep 10 (blankLine c)

/-- `TT_EVEN` (R128). -/
def ttEven (c : Config) : List Sample :=
  rep 16 (blankLine c) ++ mixedLine c ++ rep 5 c.eqHalf ++ rep 6 c.serrHalf ++ rep 5 c.eqHalf
    ++ rep 11 (blankLine c) ++ rep 1 (blankLine c) ++ rep 10 (blankLine c)

/-- The row a row descriptor shows (R162). -/
def rowOf (i : Nat) : Nat :=
  if i < idxMarkOdd then (i - 1) / repeatFactor else (i - idxEvenRow0) / repeatFactor

/-- The descriptor at index `i` of the chain (R161). -/
def chainInstr (c : Config) (i : Nat) : Instr :=
  let nxt : Reg := BitVec.ofNat 16 ((i + 1) % numDescriptors)
  if i = 0 then .xferTtOdd (BitVec.ofNat 16 c.lenOdd) nxt
  else if i = idxMarkOdd then .markOdd nxt
  else if i = idxTtEven then .xferTtEven (BitVec.ofNat 16 c.lenEven) nxt
  else if i = idxMarkEven then .markEven nxt
  else .xferRow (BitVec.ofNat 16 c.R) (BitVec.ofNat 16 (rowOf i * c.R)) nxt

/-- `chainBuild(i)` (R165). -/
def chainBuild (c : Config) (i : Nat) : Word := encode (chainInstr c i)

end Sys2Proof.Machine
end

