-- ==== Sys2Proof/Machine/Ops.lean ====
section
/-! DEFINITION. The primitives of 00_scope.md R15 over the state: reading and writing a memory, writing
the DAC and the latch, responding, raising a command error, the engine fault, the advance and the end of
a beat. There is no return from an exception (60_exceptions.md R228). -/

namespace Sys2Proof.Machine

/-! ### Memories (20_memory.md R60, R66) -/

/-- Read one element; none where it is `undef`. -/
def Memory.read {w : Nat} : Memory w → Nat → Option (BitVec w)
  | [], _ => none
  | (b, v) :: m, a => if b = a then some v else Memory.read m a

/-- Store one element, keeping the addresses rising. -/
def Memory.write {w : Nat} : Memory w → Nat → BitVec w → Memory w
  | [], a, v => [(a, v)]
  | (b, u) :: m, a, v =>
    if a < b then (a, v) :: (b, u) :: m
    else if a = b then (a, v) :: m
    else (b, u) :: Memory.write m a v

/-- A memory that holds `f i` at every address `i < n` and nothing elsewhere. -/
def Memory.fill {w : Nat} (n : Nat) (f : Nat → BitVec w) : Memory w :=
  (List.range n).map fun i => (i, f i)

/-- The frame buffer in which every row is `ACTIVE_LINE` (R146, R204). -/
def blackFrame (c : Config) : Memory 16 := Memory.fill c.fbSize fun o => activeSample c (o % c.R)

/-- The chain BEGIN writes: `chainBuild(i)` at every index (R166). -/
def builtChain (c : Config) : Memory 64 := Memory.fill numDescriptors (chainBuild c)

/-! ### Outputs -/

/-- `DacWrite(v)` (R15). -/
def State.dacWrite (v : Sample) (s : State) : State :=
  { s with dacOut := v, dacWr := true, trace := .dac v :: s.trace }

/-- `LatchWrite(v)` (R15). -/
def State.latchWrite (v : Byte) (s : State) : State := { s with fieldLatch := v }

/-- `respond(status, data)` (R15, R216). Where `rsp_valid` is 0 the spec leaves `rsp` open: that
the last response word is held until the next is the model's choice (DESIGN CHOICE, unsafe, log entry 8). -/
def State.respond (status data : Byte) (s : State) : State :=
  { s with rsp := status ++ data, rspValid := true, trace := .rsp (status ++ data) :: s.trace }

/-- The slot of the edge after the engine's step (R12, log entry 24). -/
def EdgeSlot.afterEngine : EdgeSlot → EdgeSlot
  | .hostDone => .fresh
  | .fresh | .engineDone => .engineDone

/-- The slot of the edge after what takes the host's turn of it (R12, log entry 24). -/
def EdgeSlot.afterHost : EdgeSlot → EdgeSlot
  | .engineDone => .fresh
  | .fresh | .hostDone => .hostDone

/-- The pulses, each one edge long, go low (R12). -/
def State.quiet (s : State) : State := { s with rspValid := false, dacWr := false, pixTick := false }

/-- Where a move opens an edge the pulses of the last edge go low; on an edge that is open they stay (R12,
log entry 15). The word on `rsp` stays in both cases (DESIGN CHOICE, log entry 8). -/
def State.quietIf (opens : Bool) (s : State) : State :=
  { s with
    rspValid := !opens && s.rspValid
    dacWr := !opens && s.dacWr
    pixTick := !opens && s.pixTick }

/-! ### Errors and the engine fault (60_exceptions.md) -/

/-- The command errors (R216). -/
inductive CmdError where
  | resourceExhausted
  | unsupportedMode
  | illegalCommand
  | notBound
  deriving DecidableEq, Repr

/-- The status code `OK` (R216). -/
def statusOk : Byte := 0x00

/-- The status code of a command error (R216). -/
def errorStatus : CmdError → Byte
  | .resourceExhausted => 0x01
  | .unsupportedMode => 0x02
  | .illegalCommand => 0x03
  | .notBound => 0x04

/-- `raise <Error>(info)`: the response, and no other state (R217). -/
def State.raise (e : CmdError) (info : Byte) (s : State) : State := s.respond (errorStatus e) info

/-- The engine fault `BadDescriptor` (R222): `FAULT <- 1`, `RUN <- 0`, everything else kept. It is also
what a beat does that would read an `undef` or out-of-range source element (R29, R61, U1; log entry 5). -/
def State.engineFault (s : State) : State := { s with fault := true, run := false }

/-! ### Position (R163, R164) -/

/-- Make the descriptor `d` current: `BCNT <- COUNT`, `SPTR <- SRCOFF` (R23, R24, R164). -/
def State.loadDescriptor (d : Word) (s : State) : State := { s with bcnt := dCount d, sptr := dSrcoff d }

/-- One free value is drawn. -/
def State.drawn (s : State) : State := { s with draws := s.draws + 1 }

/-- `advance(t)` (R164). The registers are loaded whether or not `CHAIN[t]` is well-formed; from an
`undef` entry they take a free value, and the next beat faults (log entry 6). -/
def State.advance (t : Reg) (s : State) : State :=
  match s.chain.read t.toNat with
  | some d => State.loadDescriptor d { s with didx := t }
  | none => State.loadDescriptor (Config.undefDescriptor s.draws) (State.drawn { s with didx := t })

/-- The position update that ends every beat (R163). `BCNT` never holds 0 between steps (R23); a state
that holds 0 all the same is taken as at its last beat (log entry 9). -/
def State.endBeat (srcInc : Bool) (next : Reg) (s : State) : State :=
  if 1 < s.bcnt.toNat then { s with bcnt := s.bcnt - 1, sptr := if srcInc then s.sptr + 1 else s.sptr }
  else s.advance next

/-! ### Beats by kind -/

/-- A video beat: 16-bit source element to the DAC, source pointer incrementing (R163, R94). `ok` is the
descriptor's well-formedness and `v` the source element, none where it holds no value. -/
def videoBeat (ok : Bool) (v : Option Sample) (next : Reg) (s : State) : Host.Outcome State Fault Refusal :=
  if ok then
    match v with
    | some x => .next ((s.dacWrite x).endBeat true next)
    | none => .next s.engineFault
  else .next s.engineFault

/-- A latch beat: 8-bit constant to the field latch, `DAC_OUT` unchanged (R163, R94). -/
def latchBeat (ok : Bool) (imm : Byte) (next : Reg) (s : State) : Host.Outcome State Fault Refusal :=
  if ok then .next ((s.latchWrite imm).endBeat false next) else .next s.engineFault

/-! ### CLEAR in progress (41_frame_buffer.md R149) -/

/-- Acceptance of a CLEAR: every offset is pending and the port is not ready. -/
def State.clearStart (s : State) : State :=
  { s with clrBusy := true, clrPend := List.range s.cfg.fbSize }

/-- After a store: where nothing is pending any more the CLEAR is over and responds (R146). On the edge of
this last store `cmd_ready` is still 0, so the host's turn of that edge is taken (R12, R149; log entry 24). -/
def State.clearFinish (s : State) : State :=
  if s.clrPend = [] then State.respond statusOk 0 { s with clrBusy := false, slot := s.slot.afterHost } else s

/-- One store of the CLEAR in progress, to the pending offset `k` draws; no move when no CLEAR is in
progress (log entry 14). -/
def State.clearStore (k : Nat) (s : State) : State :=
  if s.clrBusy then
    match s.clrPend[k % s.clrPend.length]? with
    | some o =>
      State.clearFinish
        { s with fb := s.fb.write o (activeSample s.cfg (o % s.cfg.R)),
                 clrPend := s.clrPend.eraseIdx (k % s.clrPend.length) }
    | none => s.clearFinish
  else s

/-! ### Reset (70_reset_and_hazards.md R245) -/

/-- A rising edge with `rst = 1`: every element at its reset value. The configuration, the moves still
to come, the observations made and the count of draws are no elements of the block and are kept. -/
def State.resetEdge (dac : Sample) (s : State) : State :=
  { State.resetWith s.cfg dac with inputs := s.inputs, trace := s.trace, draws := s.draws }

end Sys2Proof.Machine
end

