-- ==== Sys2Proof/Machine/Operands.lean ====
section
/-! DEFINITION. The operand forms: the source element of a beat (42_descriptor_chain.md R170), the signed
coordinates, the rotation, the clip, the quantisation and the store offset of SET_PIXEL
(41_frame_buffer.md R142 to R145, R151). -/

namespace Sys2Proof.Machine

/-! ### Sources of a beat -/

/-- Which timing table (40_timing_tables.md R130). -/
inductive TableSel where
  | odd
  | even
  deriving DecidableEq, Repr

/-- `ttRead(sel, i)`; none where `i` is out of range (R130). -/
def ttRead (c : Config) (sel : TableSel) (i : Nat) : Option Sample :=
  match sel with
  | .odd => (ttOdd c)[i]?
  | .even => (ttEven c)[i]?

/-- `FB[i]`; none where `i` is out of range or the element is `undef` (R31, R61). -/
def fbRead (s : State) (i : Nat) : Option Sample := if i < s.cfg.fbSize then s.fb.read i else none

/-! ### SET_PIXEL -/

/-- The logical size of the picture under a rotation (R143). -/
def logicalSize (c : Config) : Rotation → Nat × Nat
  | .deg0 => (c.W, height)
  | .deg90 => (height, c.W)
  | .deg180 => (c.W, height)
  | .deg270 => (height, c.W)

/-- Is the logical point `(x, y)` clipped (R142)? -/
def clipped (c : Config) (rot : Rotation) (x y : Int) : Bool :=
  decide (x < 0 ∨ y < 0 ∨ ((logicalSize c rot).1 : Int) ≤ x ∨ ((logicalSize c rot).2 : Int) ≤ y)

/-- `rotate(r, x, y)` (R143), applied only after the clip (R152). -/
def rotate (c : Config) (rot : Rotation) (x y : Nat) : Nat × Nat :=
  match rot with
  | .deg0 => (x, y)
  | .deg90 => (c.W - 1 - y, x)
  | .deg180 => (c.W - 1 - x, height - 1 - y)
  | .deg270 => (y, height - 1 - x)

/-- `unrotate(r, x', y')` (R151), not used by the hardware. -/
def unrotate (c : Config) (rot : Rotation) (x y : Nat) : Nat × Nat :=
  match rot with
  | .deg0 => (x, y)
  | .deg90 => (y, c.W - 1 - x)
  | .deg180 => (c.W - 1 - x, height - 1 - y)
  | .deg270 => (height - 1 - y, x)

/-- `quantize(b)` (R144): multiplication before the truncating division. -/
def quantize (c : Config) (b : Byte) : Sample :=
  BitVec.ofNat 16 (c.black.toNat + b.toNat * c.span / 255)

/-- The store offset `y'*R + X + x'` of the rotated point (R145). -/
def pixelOffset (c : Config) (rot : Rotation) (x y : Nat) : Nat :=
  (rotate c rot x y).2 * c.R + c.X + (rotate c rot x y).1

/-- `FB[o] <- v` then the response `OK`; a store outside the buffer stops the machine (R61). -/
def pixelStore (o : Nat) (v : Sample) (s : State) : Host.Outcome State Fault Refusal :=
  if o < s.cfg.fbSize then .next (State.respond statusOk 0 { s with fb := s.fb.write o v })
  else .fault .storeOutOfRange

/-- What SET_PIXEL and CLEAR do before the first successful BEGIN (R148, U4). -/
def beforeBegin (s : State) : Host.Outcome State Fault Refusal :=
  match s.cfg.earlyDraw with
  | .noop => .next (s.respond statusOk 0)
  | .fault => .fault .earlyDraw

end Sys2Proof.Machine
end

