-- ==== Sys2Proof/Machine/FieldLatch.lean ====
section
/-! DEFINITION. The instructions of 44_field_latch.md: MARK_ODD (R191), MARK_EVEN (R192), SET_FIELD_HINT
(R193), GET_FIELD (R194). -/

namespace Sys2Proof.Machine

/-- One beat of `MARK_ODD` (R191). -/
def execMarkOdd (next : Reg) (s : State) : Host.Outcome State Fault Refusal :=
  latchBeat (Instr.wellFormed s.cfg (.markOdd next)) oddMarker next s

/-- One beat of `MARK_EVEN` (R192). -/
def execMarkEven (next : Reg) (s : State) : Host.Outcome State Fault Refusal :=
  latchBeat (Instr.wellFormed s.cfg (.markEven next)) evenMarker next s

/-- `SET_FIELD_HINT` (R193): the latch stores whatever byte is given. -/
def execSetFieldHint (value : Byte) (s : State) : Host.Outcome State Fault Refusal :=
  .next ((s.latchWrite value).respond statusOk 0)

/-- `GET_FIELD` (R194): no side effect on the latch. -/
def execGetField (s : State) : Host.Outcome State Fault Refusal :=
  .next (s.respond statusOk s.fieldLatch)

end Sys2Proof.Machine
end

