-- ==== Sys2Proof/Machine/FrameBuffer.lean ====
section
/-! DEFINITION. The instructions of 41_frame_buffer.md: XFER_ROW (R147), SET_PIXEL (R142), CLEAR (R146). -/

namespace Sys2Proof.Machine

/-- One beat of `XFER_ROW` (R147). -/
def execXferRow (count srcoff next : Reg) (s : State) : Host.Outcome State Fault Refusal :=
  videoBeat (Instr.wellFormed s.cfg (.xferRow count srcoff next)) (fbRead s s.sptr.toNat) next s

/-- `SET_PIXEL` (R142). -/
def execSetPixel (rot : Rotation) (x y : Reg) (brightness : Byte) (s : State) :
    Host.Outcome State Fault Refusal :=
  if s.begun then
    if clipped s.cfg rot x.toInt y.toInt then .next (s.respond statusOk 0)
    else pixelStore (pixelOffset s.cfg rot x.toNat y.toNat) (quantize s.cfg brightness) s
  else beforeBegin s

/-- `CLEAR` is accepted (R146, R149): its stores follow as moves of their own and its response comes with
the last of them. -/
def execClear (s : State) : Host.Outcome State Fault Refusal :=
  if s.begun then .next s.clearStart else beforeBegin s

end Sys2Proof.Machine
end

