-- ==== Sys2Proof/Machine/Flags.lean ====
section
/-! DEFINITION. The status flags (10_state.md R29; the block has no condition codes), the response data
that show them (60_exceptions.md R216) and the state BEGIN sets up (45_host_control.md R204). -/

namespace Sys2Proof.Machine

/-- The output port `cmd_ready`: low while a CLEAR is in progress (R12, R149). -/
def State.cmdReady (s : State) : Bool := !s.clrBusy

/-- The output port `dac_data` (R12, R27). -/
def State.dacData (s : State) : Sample := s.dacOut

/-- A flag as a bit at position `n` of a data byte (R216). -/
def flagBit (b : Bool) (n : Nat) : Byte := if b then 1#8 <<< n else 0

/-- The data byte of a BEGIN that returns true: bit 0 set, bit 3 = `FAULT` (R206, R216). -/
def beginData (fault : Bool) : Byte := 0x01 ||| flagBit fault 3

/-- The data byte of `ResourceExhausted`: bit 1 no DMA channel, bit 2 no memory (R205, R216). -/
def exhaustedData (dmaAvail memAvail : Bool) : Byte := flagBit (!memAvail) 2 ||| flagBit (!dmaAvail) 1

/-- `BOUND <- 1` (R201). -/
def State.setBound (s : State) : State := { s with bound := true }

/-- `RUN <- 0` (R207). -/
def State.stopRun (s : State) : State := { s with run := false }

/-- `beginSuccess()` (R204): fill the buffer, build the chain, make descriptor 0 current, start. The edge on
which BEGIN completes counts for nothing, since the engine does not run while it executes and the first tick is
the `P`-th edge after it (R183, R204): so that edge is over and the engine's next step is that of edge 1
(log entry 24). -/
def State.beginSuccess (s : State) : State :=
  { s with
    fb := blackFrame s.cfg
    chain := builtChain s.cfg
    didx := 0
    bcnt := BitVec.ofNat 16 s.cfg.lenOdd
    sptr := 0
    div := 0
    begun := true
    run := true
    slot := .fresh }

end Sys2Proof.Machine
end

