-- ==== Sys2Proof/Machine/HostControl.lean ====
section
/-! DEFINITION. The instructions of 45_host_control.md: CREATE (R201), BEGIN (R202 to R206), STOP (R207). -/

namespace Sys2Proof.Machine

/-- `CREATE` (R201). -/
def execCreate (mode : Byte) (s : State) : Host.Outcome State Fault Refusal :=
  if mode = s.cfg.modeId then .next (s.setBound.respond statusOk 0)
  else .next (s.raise .unsupportedMode mode)

/-- `BEGIN` (R202), its checks in the order of 60_exceptions.md R226. -/
def execBegin (s : State) : Host.Outcome State Fault Refusal :=
  if s.bound then
    if s.begun then .next (s.respond statusOk (beginData s.fault))
    else if s.dmaAvail && s.memAvail then .next (s.beginSuccess.respond statusOk 0x01)
    else .next (s.raise .resourceExhausted (exhaustedData s.dmaAvail s.memAvail))
  else .next (s.raise .notBound 0)

/-- `STOP` (R207). -/
def execStop (s : State) : Host.Outcome State Fault Refusal :=
  .next (s.stopRun.respond statusOk 0)

end Sys2Proof.Machine
end

