-- ==== Sys2Proof/Machine/TimingTables.lean ====
section
/-! DEFINITION. The instructions of 40_timing_tables.md: XFER_TT_ODD (R131) and XFER_TT_EVEN (R132). -/

namespace Sys2Proof.Machine

/-- One beat of `XFER_TT_ODD` (R131). -/
def execXferTtOdd (count next : Reg) (s : State) : Host.Outcome State Fault Refusal :=
  videoBeat (Instr.wellFormed s.cfg (.xferTtOdd count next)) (ttRead s.cfg .odd s.sptr.toNat) next s

/-- One beat of `XFER_TT_EVEN` (R132). -/
def execXferTtEven (count next : Reg) (s : State) : Host.Outcome State Fault Refusal :=
  videoBeat (Instr.wellFormed s.cfg (.xferTtEven count next)) (ttRead s.cfg .even s.sptr.toNat) next s

end Sys2Proof.Machine
end

