-- ==== Sys2Proof/Machine/Dispatch.lean ====
section
/-! DEFINITION. One arm per instruction: the meaning it has. -/

namespace Sys2Proof.Machine

def exec (i : Instr) (s : State) : Host.Outcome State Fault Refusal :=
  match i with
  | .xferTtOdd count next => Sys2Proof.Machine.execXferTtOdd count next s
  | .xferTtEven count next => Sys2Proof.Machine.execXferTtEven count next s
  | .xferRow count srcoff next => Sys2Proof.Machine.execXferRow count srcoff next s
  | .markOdd next => Sys2Proof.Machine.execMarkOdd next s
  | .markEven next => Sys2Proof.Machine.execMarkEven next s
  | .create mode => Sys2Proof.Machine.execCreate mode s
  | .begin => Sys2Proof.Machine.execBegin s
  | .stop => Sys2Proof.Machine.execStop s
  | .setPixel rot x y brightness => Sys2Proof.Machine.execSetPixel rot x y brightness s
  | .clear => Sys2Proof.Machine.execClear s
  | .setFieldHint value => Sys2Proof.Machine.execSetFieldHint value s
  | .getField => Sys2Proof.Machine.execGetField s

end Sys2Proof.Machine
end

