-- ==== Sys2Proof/Machine/Agents.lean ====
section
/-! DEFINITION. The moves of the two agents (00_scope.md R5): the engine's clock step and beat
(43_pixel_clock.md R181, 42_descriptor_chain.md R163), the acceptance of a command, at most one on an edge
(R12), a store of a CLEAR (R149), reset (R245); which move is next; and placing a word where the next step fetches it. -/

namespace Sys2Proof.Machine

/-- An edge that is a pixel tick: `DIV <- 0` and the pulse (R181). -/
def State.tickStart (s : State) : State :=
  { s with div := 0, pixTick := true, trace := .tick :: s.trace }

/-- An edge that is none: `DIV <- DIV + 1` (R181). -/
def State.countEdge (s : State) : State := { s with div := s.div + 1 }

/-- The current descriptor `CHAIN[DIDX]`; none where it is `undef` or `DIDX >= N` (R222). -/
def fetchDescriptor (s : State) : Option Word :=
  if s.didx.toNat < numDescriptors then s.chain.read s.didx.toNat else none

/-- `beat()` (R163): the current descriptor is fetched, decoded and executed; an `undef` or illegal one
is the engine fault (R222). -/
def beat (s : State) : Host.Outcome State Fault Refusal :=
  match fetchDescriptor s with
  | none => .next s.engineFault
  | some d =>
    match decodeDescriptor d with
    | .ok i => exec i s
    | .error _ => .next s.engineFault

/-- `clockStep()` (R181). -/
def clockEdge (s : State) : Host.Outcome State Fault Refusal :=
  if s.run then
    if s.div.toNat + 1 = s.cfg.P then beat s.tickStart else .next s.countEdge
  else .next s

/-- The two availability inputs are sampled. -/
def State.sample (dma mem : Bool) (s : State) : State := { s with dmaAvail := dma, memAvail := mem }

/-- The sampling an accepted command does: a BEGIN with `BOUND = 1`, `BEGUN = 0` samples the two inputs as
they stand on that edge, no other command does (R12, R203). -/
def State.sampleFor (i : Instr) (dma mem : Bool) (s : State) : State :=
  if i = .begin ∧ s.bound = true ∧ s.begun = false then s.sample dma mem else s

/-- The host presents a command word (R12). It is accepted when `cmd_ready = 1`; otherwise the
presentation has no effect (log entry 13). An illegal word raises `IllegalCommand` with `cmd[63:56]` (R216, R220). -/
def presentCommand (word : Word) (dma mem : Bool) (s : State) : Host.Outcome State Fault Refusal :=
  if s.clrBusy then .next s
  else
    match decodeCommand word with
    | .ok i => exec i (s.sampleFor i dma mem)
    | .error _ => .next (s.raise .illegalCommand (word.extractLsb' 56 8))

/-- The engine takes its step of an edge: of the current one if it has not done so, else it opens the next
(R12, log entry 24). -/
def State.engineTurn (s : State) : State :=
  State.quietIf (s.slot ≠ .hostDone) { s with slot := s.slot.afterEngine }

/-- A command is accepted on an edge: on the current one if only the engine has acted on it, else it opens
the next (R12, log entry 24). A port that is not ready accepts none. -/
def State.hostTurn (s : State) : State :=
  State.quietIf (!s.clrBusy && s.slot ≠ .engineDone)
    { s with slot := if s.clrBusy then s.slot else s.slot.afterHost }

/-- A store of the CLEAR in progress is made on the current edge, or opens the next where that is over
(R149, log entry 24). -/
def State.storeTurn (s : State) : State :=
  State.quietIf (s.clrBusy && s.slot = .fresh)
    { s with slot := if s.clrBusy && s.slot = .fresh then .hostDone else s.slot }

/-- The move must wait for the next edge: the host has acted on this one and the engine's step of it is
still to come (R12: one command for an edge; R245: no command is accepted on an edge of reset). -/
def State.waits (i : Input) (s : State) : Bool :=
  match i with
  | .command _ _ _ | .reset _ => decide (s.slot = .hostDone)
  | .edge | .clearStore _ => false

/-- The move an input describes. -/
def move (i : Input) (s : State) : Host.Outcome State Fault Refusal :=
  match i with
  | .edge => clockEdge s.engineTurn
  | .command word dma mem => presentCommand word dma mem s.hostTurn
  | .clearStore k => .next (s.storeTurn.clearStore k)
  | .reset dac => .next (s.resetEdge dac)

/-- The move when the inputs list is empty: the outside world is silent, the engine goes on, and a CLEAR
in progress is interleaved with it in an order no rule gives (log entry 3). -/
def idleMove (s : State) : Host.Outcome State Fault Refusal :=
  if s.clrBusy then
    match Config.idleStore s.draws with
    | some k => .next (s.drawn.storeTurn.clearStore k)
    | none => clockEdge s.drawn.engineTurn
  else clockEdge s.engineTurn

/-- One step: an ill-formed configuration is refused before any run (R8, U6); otherwise the next
move is made. Where that must wait for the next edge the step is the engine's of this one, and the move stays
listed. -/
def nextMove (s : State) : Host.Outcome State Fault Refusal :=
  if s.cfg.WF then
    match s.inputs with
    | [] => idleMove s
    | i :: rest =>
      if s.waits i then clockEdge s.engineTurn
      else move i { s with inputs := rest }
  else .refused .illFormedConfig

/-- `d` stands at `CHAIN[DIDX]` as the descriptor that has just become current, and the next step is the
edge of a pixel tick. A `DIDX` outside the chain is set to 0. -/
def placeDescriptor (d : Word) (s : State) : State :=
  let at0 : Reg := if s.didx.toNat < numDescriptors then s.didx else 0
  State.loadDescriptor d
    { s with
      run := true
      didx := at0
      div := BitVec.ofNat 16 (s.cfg.P - 1)
      chain := s.chain.write at0.toNat d
      inputs := .edge :: s.inputs }

/-- The next step is the acceptance of `w`; a CLEAR in progress is over and so is the edge of an earlier
command, so that the port is ready. The availability inputs on that edge, a free draw where the host presents
a command (R203, U13, R218), are here those last sampled, both 0 from `State.reset`: DESIGN CHOICE, unsafe, log
entry 17. -/
def placeCommand (w : Word) (s : State) : State :=
  { s with
    clrBusy := false
    clrPend := []
    slot := .fresh
    inputs := .command w s.dmaAvail s.memAvail :: s.inputs }

/-- A table word is placed where the next step fetches it: a word of a descriptor row in the chain, every
other on the command port (log entries 16 and 17). -/
def placeWord (nbits w : Nat) (s : State) : State :=
  match tableWord nbits w with
  | none => s
  | some word =>
    match decodeDescriptor word with
    | .ok _ => placeDescriptor word s
    | .error _ => placeCommand word s

end Sys2Proof.Machine
end

