-- ==== Sys2Proof/Safety.lean ====
section
/-! DEFINITION. The terms claims use: the life-cycle states (60_exceptions.md R229), the invariants the
spec states (R38, R141, R167), the beat in the words of R163, the frame schedule (R168), the host's duty
(U5) and the reachable states. -/

namespace Sys2Proof.Machine

/-! ### Life cycle -/

/-- The life-cycle states (R229). -/
inductive Phase where
  | unbound
  | bound
  | running
  | stopped
  | faulted
  deriving DecidableEq, Repr

/-- The life-cycle state the flags determine (R229). -/
def State.phase (s : State) : Phase :=
  if s.fault then .faulted
  else if s.begun then (if s.run then .running else .stopped)
  else if s.bound then .bound
  else .unbound

/-! ### Invariants -/

/-- Offset `i` is inside the source space the descriptor `d` selects (R61). -/
def InSource (c : Config) (d : Word) (i : Nat) : Prop :=
  (dSrc d = 0 → i < c.lenOdd) ∧ (dSrc d = 1 → i < c.lenEven) ∧ (dSrc d = 2 → i < c.fbSize)

/-- The invariant of the working registers (R38). -/
def PositionOk (s : State) : Prop :=
  ∃ d, fetchDescriptor s = some d ∧ (∃ i, decodeD s.cfg d = .ok i) ∧
    1 ≤ s.bcnt.toNat ∧ s.bcnt.toNat ≤ (dCount d).toNat ∧
    s.sptr.toNat = (dSrcoff d).toNat + (if dSrcinc d = 1 then (dCount d).toNat - s.bcnt.toNat else 0) ∧
    InSource s.cfg d s.sptr.toNat

/-- Every element of the frame buffer holds a value in `[SYNC, WHITE]` (R141). -/
def BufferOk (s : State) : Prop :=
  ∀ o, o < s.cfg.fbSize → ∃ v, s.fb.read o = some v ∧
    s.cfg.sync.toNat ≤ v.toNat ∧ v.toNat ≤ s.cfg.white.toNat

/-- What holds in every state of a run (R38, R141, R166, R167, R222, R229, R34, R26). -/
structure State.Inv (s : State) : Prop where
  /-- the configuration is well-formed (R8) -/
  config : s.cfg.WF
  /-- the buffer's canonical form -/
  fbCanonical : s.fb.wf
  /-- nothing is listed outside the buffer (R31) -/
  fbInside : ∀ a, s.cfg.fbSize ≤ a → s.fb.read a = none
  /-- nothing exists before the first successful BEGIN (R31, R32) -/
  unallocated : s.begun = false → s.fb = [] ∧ s.chain = []
  /-- from then on the buffer satisfies R141 -/
  buffer : s.begun = true → BufferOk s
  /-- and the chain is the built one (R166) -/
  chainBuilt : s.begun = true → s.chain = builtChain s.cfg
  /-- BEGIN needs CREATE (R202) -/
  boundFirst : s.begun = true → s.bound = true
  /-- only a begun engine runs (R29) -/
  begunFirst : s.run = true → s.begun = true
  /-- the engine fault does not occur (R222) -/
  noFault : s.fault = false
  /-- the working registers (R38) -/
  position : s.run = true → PositionOk s
  /-- the divider (R26) -/
  divider : s.run = true → s.div.toNat < s.cfg.P
  /-- a CLEAR is in progress exactly while stores are pending (R34) -/
  clearing : s.clrBusy = true ↔ s.clrPend ≠ []
  /-- the pending set is canonical -/
  pendRising : s.clrPend.Pairwise (· < ·)
  /-- and inside the buffer (R34) -/
  pendInside : ∀ o, o ∈ s.clrPend → o < s.cfg.fbSize
  /-- CLEAR needs a begun engine (R148) -/
  clearAfterBegin : s.clrBusy = true → s.begun = true

/-- While a CLEAR is in progress every offset whose store has happened holds `ACTIVE_LINE` (R146, R149). -/
def ClearProgress (s : State) : Prop :=
  s.clrBusy = true → ∀ o, o < s.cfg.fbSize → o ∉ s.clrPend →
    s.fb.read o = some (activeSample s.cfg (o % s.cfg.R))

/-- The sync, porch and tail samples of every row hold what CLEAR gives them (R9, R252). -/
def BlankingIntact (s : State) : Prop :=
  s.begun = true → ∀ o, o < s.cfg.fbSize → o % s.cfg.R < 9 ∨ o % s.cfg.R = s.cfg.R - 1 →
    s.fb.read o = some (activeSample s.cfg (o % s.cfg.R))

/-- The latch holds one of its three values (R28). -/
def LatchLegal (s : State) : Prop := s.fieldLatch = 0 ∨ s.fieldLatch = oddMarker ∨ s.fieldLatch = evenMarker

/-- The host's duty on the moves to come: a SET_FIELD_HINT writes only 0 (R193, U5). -/
def HostDuty (s : State) : Prop :=
  ∀ w dma mem v, Input.command w dma mem ∈ s.inputs → decodeCommand w = .ok (.setFieldHint v) → v = 0

/-! ### The beat in the words of R163 -/

/-- The source element a descriptor word selects, a constant widened to 16 bits (R163). -/
def sourceElement (s : State) (d : Word) : Option (BitVec 16) :=
  if dSrc d = 0 then ttRead s.cfg .odd s.sptr.toNat
  else if dSrc d = 1 then ttRead s.cfg .even s.sptr.toNat
  else if dSrc d = 2 then fbRead s s.sptr.toNat
  else some ((dImm8 d).setWidth 16)

/-- Writing the destination a descriptor word selects (R163). -/
def writeDestination (d : Word) (v : BitVec 16) (s : State) : State :=
  if dDst d = 0 then s.dacWrite v else s.latchWrite (v.setWidth 8)

/-- `beat()` by the fields of the descriptor word, as R163 writes it. -/
def fieldBeat (s : State) : State :=
  match fetchDescriptor s with
  | none => s.engineFault
  | some d =>
    match decodeD s.cfg d, sourceElement s d with
    | .ok _, some v => (writeDestination d v s).endBeat (dSrcinc d = 1) (dNext d)
    | _, _ => s.engineFault

/-! ### The frame schedule (R168) -/

/-- What a beat does. -/
inductive BeatAction where
  /-- a sample of a timing table goes to the DAC -/
  | table (sel : TableSel) (i : Nat)
  /-- a sample of the frame buffer goes to the DAC -/
  | buffer (o : Nat)
  /-- the latch is written, the DAC is not -/
  | latch (v : Byte)
  deriving DecidableEq, Repr

/-- Position and action of one beat. -/
structure BeatPlan where
  /-- descriptor index -/
  index : Nat
  /-- beats left, this one included -/
  left : Nat
  /-- source pointer -/
  ptr : Nat
  /-- what it does -/
  action : BeatAction
  deriving DecidableEq, Repr

/-- Beat `q` of the 216 scan lines of a field whose first row descriptor is `first`. -/
def rowPlan (c : Config) (first q : Nat) : BeatPlan :=
  let o := q / c.R / repeatFactor * c.R + q % c.R
  ⟨first + q / c.R, c.R - q % c.R, o, .buffer o⟩

/-- Beat `p` of a frame, `0 <= p < 525*R + 2` (R168). -/
def beatPlan (c : Config) (p : Nat) : BeatPlan :=
  if p < 46 * c.R then ⟨0, 46 * c.R - p, p, .table .odd p⟩
  else if p < 262 * c.R then rowPlan c 1 (p - 46 * c.R)
  else if p = 262 * c.R then ⟨217, 1, 1, .latch oddMarker⟩
  else if p < 309 * c.R + 1 then
    ⟨218, 309 * c.R + 1 - p, p - 262 * c.R - 1, .table .even (p - 262 * c.R - 1)⟩
  else if p < 525 * c.R + 1 then rowPlan c 219 (p - 309 * c.R - 1)
  else ⟨435, 1, 2, .latch evenMarker⟩

/-- The working registers stand at beat `p` of the frame. -/
def AtBeat (s : State) (p : Nat) : Prop :=
  s.didx.toNat = (beatPlan s.cfg p).index ∧ s.bcnt.toNat = (beatPlan s.cfg p).left ∧
    s.sptr.toNat = (beatPlan s.cfg p).ptr

/-- `v` went to the DAC on the tick that leads from `s` to `t`; the latch kept its value. -/
def Sent (s t : State) (v : Sample) : Prop :=
  t.dacOut = v ∧ t.fieldLatch = s.fieldLatch ∧ t.trace = .dac v :: .tick :: s.trace

/-- The action `a` was performed on the tick that leads from `s` to `t`. -/
def Performed (s t : State) : BeatAction → Prop
  | .table sel i => ∃ v, ttRead s.cfg sel i = some v ∧ Sent s t v
  | .buffer o => ∃ v, s.fb.read o = some v ∧ Sent s t v
  | .latch v => t.fieldLatch = v ∧ t.dacOut = s.dacOut ∧ t.trace = .tick :: s.trace

/-- What beat `p` shows an observer while the buffer stays as it is in `s`, newest first. -/
def beatObs (s : State) (p : Nat) : List Obs :=
  match (beatPlan s.cfg p).action with
  | .table sel i => (match ttRead s.cfg sel i with | some v => [.dac v, .tick] | none => [])
  | .buffer o => (match s.fb.read o with | some v => [.dac v, .tick] | none => [])
  | .latch _ => [.tick]

/-- What the first `k` beats from the start of a frame show, newest first. -/
def frameTrace (s : State) : Nat → List Obs
  | 0 => []
  | k + 1 => beatObs s (k % s.cfg.beatsPerFrame) ++ frameTrace s k

/-! ### What the next step is -/

/-- The next step is a rising edge with `rst = 1` (R245): the host has not acted on an edge that still waits
for the engine's step. -/
def Resets (s : State) : Prop := s.slot ≠ .hostDone ∧ ∃ dac, s.inputs.head? = some (.reset dac)

/-- The next step accepts the host command `i`, the availability inputs being these on that edge: the port
is ready and the host has not acted on this edge before (R12, R203, U16). -/
def Accepts (s : State) (i : Instr) (dma mem : Bool) : Prop :=
  s.clrBusy = false ∧ s.slot ≠ .hostDone ∧
    ∃ w, s.inputs.head? = some (.command w dma mem) ∧ decodeCommand w = .ok i

/-- The next step can be a pixel tick (R181): the engine runs, `DIV = P - 1`, and no other move is
scheduled, or the one that is waits for the next edge. -/
def Ticks (s : State) : Prop :=
  s.run = true ∧ s.div.toNat + 1 = s.cfg.P ∧
    (s.inputs = [] ∨ s.inputs.head? = some .edge ∨ ∃ i, s.inputs.head? = some i ∧ s.waits i = true)

/-- The current descriptor is `i`, well-formed (R35, R97). -/
def Current (s : State) (i : Instr) : Prop :=
  ∃ d, fetchDescriptor s = some d ∧ decodeD s.cfg d = .ok i

/-- How a beat moves the position (R163, R164). From an `undef` entry `BCNT` and `SPTR` take a value no
rule gives, so nothing is said of them. -/
def Moved (srcInc : Bool) (next : Reg) (s t : State) : Prop :=
  (1 < s.bcnt.toNat → t.didx = s.didx ∧ t.bcnt.toNat + 1 = s.bcnt.toNat ∧
    t.sptr = (if srcInc then s.sptr + 1 else s.sptr) ∧ t.draws = s.draws) ∧
  (s.bcnt.toNat ≤ 1 → t.didx = next ∧
    ∀ d, s.chain.read next.toNat = some d → t.bcnt = dCount d ∧ t.sptr = dSrcoff d ∧ t.draws = s.draws)

/-! ### Runs -/

/-- The states a block with configuration `c` can be in: reset, then steps, the outside world replacing
the moves to come at any time. -/
inductive Reachable (c : Config) : State → Prop where
  | reset (dac : Sample) : Reachable c (State.resetWith c dac)
  | outside (s : State) (moves : List Input) : Reachable c s → Reachable c { s with inputs := moves }
  | step (s t : State) : Reachable c s → step s = .next t → Reachable c t

end Sys2Proof.Machine
end

