-- ==== Sys2Proof/Certificates/Slice0/Obligations.lean ====
section
/-! DEFINITION. The statements for the provers. Every statement is about all states and all
configurations its hypotheses admit; none rests on the configuration or the DAC draw of `State.reset`.
Where a statement says that nothing else changes, the word on `rsp`, which the spec leaves open while `rsp_valid`
is 0, is held: the model's choice (DESIGN CHOICE, log entry 8). -/

open Sys2Proof Sys2Proof.Machine

/-! ### Encoding -/

/-- Decoding what was encoded gives the instruction back, every operand at every value, in its own format
and through the table numbering; for a well-formed descriptor so does `decodeD` (R97). R90 keeps the two formats
apart by where a word is met; that the table numbering, which has only the bits, reads D64 rows first is the
model's choice (DESIGN CHOICE, log entry 16), and the third clause rests on it. -/
def Obligations.EncodeDecodeRoundTrip : Prop :=
  ∀ i : Instr,
    (i.isDescriptor = true → decodeDescriptor (encode i) = .ok i) ∧
    (i.isDescriptor = false → decodeCommand (encode i) = .ok i) ∧
    decodeTableWord 64 (encode i).toNat = some i ∧
    ∀ c : Config, i.isDescriptor = true → i.wellFormed c = true → decodeD c (encode i) = .ok i

/-- A descriptor word that decodes is the encoding of what it decodes to: no bit is dropped. -/
def Obligations.DescriptorWordsEncodeBack : Prop :=
  ∀ (d : Word) (i : Instr), decodeDescriptor d = .ok i → encode i = d

/-- R98: match, mask and the fields left to check, for the five kinds. -/
def Obligations.DescriptorRowsByMatchAndMask : Prop :=
  ∀ (c : Config) (d : Word) (i : Instr), decodeD c d = .ok i ↔
    (d &&& 0xFFFF0000FFFF0000#64 = 0x1800000000000000#64 ∧ (dCount d).toNat = c.lenOdd ∧
      (dNext d).toNat < 436 ∧ i = .xferTtOdd (dCount d) (dNext d)) ∨
    (d &&& 0xFFFF0000FFFF0000#64 = 0x5800000000000000#64 ∧ (dCount d).toNat = c.lenEven ∧
      (dNext d).toNat < 436 ∧ i = .xferTtEven (dCount d) (dNext d)) ∨
    (d &&& 0xFFFF000000000000#64 = 0x9800000000000000#64 ∧ (dCount d).toNat = c.R ∧
      (∃ row, row < 24 ∧ (dSrcoff d).toNat = row * c.R) ∧
      (dNext d).toNat < 436 ∧ i = .xferRow (dCount d) (dSrcoff d) (dNext d)) ∨
    (d &&& 0xFFFFFFFFFFFF0000#64 = 0xE000000100010000#64 ∧
      (dNext d).toNat < 436 ∧ i = .markOdd (dNext d)) ∨
    (d &&& 0xFFFFFFFFFFFF0000#64 = 0xE000000100020000#64 ∧
      (dNext d).toNat < 436 ∧ i = .markEven (dNext d))

/-- R101: `match = OP << 60` under the mask of `OP` and `RSV`, and the fields each command uses. -/
def Obligations.CommandRowsByMatchAndMask : Prop :=
  ∀ (w : Word) (i : Instr), decodeCommand w = .ok i ↔
    (w &&& 0xF3FFFF0000000000#64 = 0x0000000000000000#64 ∧ i = .create (hVal w)) ∨
    (w &&& 0xF3FFFF0000000000#64 = 0x1000000000000000#64 ∧ i = .begin) ∨
    (w &&& 0xF3FFFF0000000000#64 = 0x2000000000000000#64 ∧ i = .stop) ∨
    (w &&& 0xF3FFFF0000000000#64 = 0x3000000000000000#64 ∧
      i = .setPixel (rotationOf (hRot w)) (hX w) (hY w) (hVal w)) ∨
    (w &&& 0xF3FFFF0000000000#64 = 0x4000000000000000#64 ∧ i = .clear) ∨
    (w &&& 0xF3FFFF0000000000#64 = 0x5000000000000000#64 ∧ i = .setFieldHint (hVal w)) ∨
    (w &&& 0xF3FFFF0000000000#64 = 0x6000000000000000#64 ∧ i = .getField)

/-- R103: exactly the words with `OP` in 7 to 15 or a non-zero `RSV` are illegal; presented on a ready
port such a word answers `IllegalCommand` with `cmd[63:56]` and changes no state; fields a command does
not use are not checked. -/
def Obligations.ReservedCommandsAreIllegal : Prop :=
  (∀ w : Word, (7 ≤ (hOp w).toNat ∨ hRsv w ≠ 0) ↔ ∃ e, decodeCommand w = .error e) ∧
  (∀ (w : Word) (dma mem : Bool) (s : State), s.clrBusy = false → (7 ≤ (hOp w).toNat ∨ hRsv w ≠ 0) →
    presentCommand w dma mem s =
      .next { s with rsp := 0x03#8 ++ w.extractLsb' 56 8, rspValid := true,
                     trace := .rsp (0x03#8 ++ w.extractLsb' 56 8) :: s.trace }) ∧
  (∀ (op : BitVec 4) (rot rot' : BitVec 2) (x x' y y' : Reg) (val val' : Byte),
    (op ≠ 3 → decodeCommand (encodeH64 op rot x y val) = decodeCommand (encodeH64 op rot' x' y' val)) ∧
    (op ≠ 0 → op ≠ 3 → op ≠ 5 →
      decodeCommand (encodeH64 op rot x y val) = decodeCommand (encodeH64 op rot' x' y' val')))

/-- No well-formed descriptor word is a legal command word: the two formats cannot be mistaken. -/
def Obligations.WellFormedDescriptorIsNoCommand : Prop :=
  ∀ (c : Config) (d : Word) (i : Instr), c.WF → decodeD c d = .ok i → ∃ e, decodeCommand d = .error e

/-- A few words of 95_test_vectors.md 2.1 and 2.2, under EX. -/
def Obligations.SpecWordsDecode : Prop :=
  decodeD Config.ex 0x18000A1000000001#64 = .ok (.xferTtOdd 2576 1) ∧
  decodeD Config.ex 0x98000038000001B4#64 = .error .nextOutOfRange ∧
  decodeD Config.ex 0x980000380038000B#64 = .ok (.xferRow 56 56 11) ∧
  decodeD Config.ex 0xE0000001000100DA#64 = .ok (.markOdd 218) ∧
  decodeD Config.ex 0x9801003800000002#64 = .error .reservedBits ∧
  decodeCommand 0x300000FFFF0000FF#64 = .ok (.setPixel .deg0 (-1) 0 255) ∧
  decodeCommand 0x3C00000017002701#64 = .ok (.setPixel .deg270 23 39 1) ∧
  decodeCommand 0x7000000000000000#64 = .error .noSuchRow

/-! ### Timing tables -/

/-- R121 and R127: the blank line by index; composition, length and segment offsets of the odd-field table,
the samples of its blank lines written out. -/
def Obligations.OddTableSegments : Prop :=
  ∀ c : Config, c.WF →
    (ttOdd c).length = 46 * c.R ∧
    ((blankLine c).length = c.R ∧ (∀ j, j < 4 → (blankLine c)[j]? = some c.sync) ∧
      (∀ j, 4 ≤ j → j < c.R → (blankLine c)[j]? = some c.blank)) ∧
    (∀ l j, l < 16 → j < c.R → (ttOdd c)[l * c.R + j]? = some (if j < 4 then c.sync else c.blank)) ∧
    (∀ h j, h < 6 → j < c.half → (ttOdd c)[16 * c.R + h * c.half + j]? = c.eqHalf[j]?) ∧
    (∀ h j, h < 6 → j < c.half → (ttOdd c)[19 * c.R + h * c.half + j]? = c.serrHalf[j]?) ∧
    (∀ h j, h < 6 → j < c.half → (ttOdd c)[22 * c.R + h * c.half + j]? = c.eqHalf[j]?) ∧
    (∀ l j, l < 11 → j < c.R → (ttOdd c)[25 * c.R + l * c.R + j]? = some (if j < 4 then c.sync else c.blank)) ∧
    (∀ l j, l < 10 → j < c.R → (ttOdd c)[36 * c.R + l * c.R + j]? = some (if j < 4 then c.sync else c.blank))

/-- R128: composition, length and segment offsets of the even-field table, the samples of its blank lines
and of the blank half of its mixed line written out. -/
def Obligations.EvenTableSegments : Prop :=
  ∀ c : Config, c.WF →
    (ttEven c).length = 47 * c.R ∧
    (∀ l j, l < 16 → j < c.R → (ttEven c)[l * c.R + j]? = some (if j < 4 then c.sync else c.blank)) ∧
    (∀ j, j < c.half → (ttEven c)[16 * c.R + j]? = some (if j < 4 then c.sync else c.blank)) ∧
    (∀ j, j < c.half → (ttEven c)[16 * c.R + c.half + j]? = c.eqHalf[j]?) ∧
    (∀ h j, h < 5 → j < c.half → (ttEven c)[17 * c.R + h * c.half + j]? = c.eqHalf[j]?) ∧
    (∀ h j, h < 6 → j < c.half →
      (ttEven c)[17 * c.R + 5 * c.half + h * c.half + j]? = c.serrHalf[j]?) ∧
    (∀ h j, h < 5 → j < c.half →
      (ttEven c)[17 * c.R + 11 * c.half + h * c.half + j]? = c.eqHalf[j]?) ∧
    (∀ l j, l < 11 → j < c.R → (ttEven c)[25 * c.R + l * c.R + j]? = some (if j < 4 then c.sync else c.blank)) ∧
    (∀ j, j < c.R → (ttEven c)[36 * c.R + j]? = some (if j < 4 then c.sync else c.blank)) ∧
    (∀ l j, l < 10 → j < c.R → (ttEven c)[37 * c.R + l * c.R + j]? = some (if j < 4 then c.sync else c.blank))

/-- R129: the table invariants. -/
def Obligations.TableInvariants : Prop :=
  (∀ c : Config, c.WF →
    (ttOdd c).length = 46 * c.R ∧ (ttEven c).length = 47 * c.R ∧
    (∀ v, v ∈ ttOdd c ∨ v ∈ ttEven c → (v = c.sync ∨ v = c.blank) ∧
      c.sync.toNat ≤ v.toNat ∧ v.toNat ≤ c.white.toNat) ∧
    (∀ i, i < 4 → (ttOdd c)[i]? = some c.sync ∧ (ttEven c)[i]? = some c.sync) ∧
    (ttOdd c).getLast? = some c.blank ∧ (ttEven c).getLast? = some c.blank) ∧
  (∀ s t : State, step s = .next t → ttOdd t.cfg = ttOdd s.cfg ∧ ttEven t.cfg = ttEven s.cfg)

/-- R122: the active line is `R` samples, by index and as the concatenation. -/
def Obligations.ActiveLineByIndex : Prop :=
  ∀ c : Config, c.WF →
    (activeLine c).length = c.R ∧
    ∀ col, col < c.R → (activeLine c)[col]? = some (activeSample c col) ∧
      (col ≤ 3 → activeSample c col = c.sync) ∧
      (4 ≤ col → col ≤ 8 → activeSample c col = c.blank) ∧
      (9 ≤ col → col ≤ c.R - 2 → activeSample c col = c.black) ∧
      (col = c.R - 1 → activeSample c col = c.blank)

/-! ### Pixels -/

/-- R143, R151: the mapping, the logical size and the inverse of each rotation, as their tables write them;
each rotation is a bijection of the logical onto the physical rectangle with `unrotate` as its inverse. -/
def Obligations.RotationRoundTrip : Prop :=
  (∀ (c : Config) (x y : Nat),
    logicalSize c .deg0 = (c.W, 24) ∧ logicalSize c .deg90 = (24, c.W) ∧
    logicalSize c .deg180 = (c.W, 24) ∧ logicalSize c .deg270 = (24, c.W) ∧
    rotate c .deg0 x y = (x, y) ∧ rotate c .deg90 x y = (c.W - 1 - y, x) ∧
    rotate c .deg180 x y = (c.W - 1 - x, 24 - 1 - y) ∧ rotate c .deg270 x y = (y, 24 - 1 - x) ∧
    unrotate c .deg0 x y = (x, y) ∧ unrotate c .deg90 x y = (y, c.W - 1 - x) ∧
    unrotate c .deg180 x y = (c.W - 1 - x, 24 - 1 - y) ∧ unrotate c .deg270 x y = (24 - 1 - y, x)) ∧
  ∀ (c : Config) (rot : Rotation),
    (∀ x y, x < (logicalSize c rot).1 → y < (logicalSize c rot).2 →
      (rotate c rot x y).1 < c.W ∧ (rotate c rot x y).2 < 24 ∧
      unrotate c rot (rotate c rot x y).1 (rotate c rot x y).2 = (x, y)) ∧
    (∀ x y, x < c.W → y < 24 →
      (unrotate c rot x y).1 < (logicalSize c rot).1 ∧ (unrotate c rot x y).2 < (logicalSize c rot).2 ∧
      rotate c rot (unrotate c rot x y).1 (unrotate c rot x y).2 = (x, y))

/-- R144: the quantisation and its properties. -/
def Obligations.QuantizeLaw : Prop :=
  ∀ c : Config, c.WF →
    (∀ b : Byte, (quantize c b).toNat = c.black.toNat + b.toNat * (c.white.toNat - c.black.toNat) / 255) ∧
    quantize c 0 = c.black ∧ quantize c 255 = c.white ∧
    (∀ a b : Byte, a.toNat ≤ b.toNat → (quantize c a).toNat ≤ (quantize c b).toNat) ∧
    (∀ b : Byte, c.black.toNat ≤ (quantize c b).toNat ∧ (quantize c b).toNat ≤ c.white.toNat) ∧
    (∀ b : Byte, b.toNat * (c.white.toNat - c.black.toNat) < 2 ^ 24)

/-- R143, R145: the store offset under each rotation, in the logical `x` and `y`; it stays in the row of the
rotated point and inside the buffer. -/
def Obligations.PixelOffsetInRow : Prop :=
  (∀ (c : Config) (x y : Nat), c.WF →
    (x < c.W → y < 24 → pixelOffset c .deg0 x y = y * c.R + c.X + x) ∧
    (x < 24 → y < c.W → pixelOffset c .deg90 x y = x * c.R + c.X + (c.W - 1 - y)) ∧
    (x < c.W → y < 24 → pixelOffset c .deg180 x y = (23 - y) * c.R + c.X + (c.W - 1 - x)) ∧
    (x < 24 → y < c.W → pixelOffset c .deg270 x y = (23 - x) * c.R + c.X + y)) ∧
  ∀ (c : Config) (rot : Rotation) (x y : Nat), c.WF →
    x < (logicalSize c rot).1 → y < (logicalSize c rot).2 →
    pixelOffset c rot x y = (rotate c rot x y).2 * c.R + c.X + (rotate c rot x y).1 ∧
    (rotate c rot x y).2 * c.R + c.X ≤ pixelOffset c rot x y ∧
    pixelOffset c rot x y ≤ (rotate c rot x y).2 * c.R + c.R - 1 ∧
    pixelOffset c rot x y < 24 * c.R ∧ pixelOffset c rot x y < 65536

/-- R142: SET_PIXEL before BEGIN, outside the logical rectangle and inside it. It answers `OK` and its one
store is the only other change; every other address reads as before. -/
def Obligations.SetPixelResult : Prop :=
  ∀ (s : State) (rot : Rotation) (x y : Reg) (b : Byte), s.cfg.WF →
    (s.begun = false → s.cfg.earlyDraw = .noop →
      exec (.setPixel rot x y b) s =
        .next { s with rsp := 0, rspValid := true, trace := .rsp 0 :: s.trace }) ∧
    (s.begun = true →
      x.toInt < 0 ∨ y.toInt < 0 ∨ ((logicalSize s.cfg rot).1 : Int) ≤ x.toInt ∨
        ((logicalSize s.cfg rot).2 : Int) ≤ y.toInt →
      exec (.setPixel rot x y b) s =
        .next { s with rsp := 0, rspValid := true, trace := .rsp 0 :: s.trace }) ∧
    (s.begun = true → 0 ≤ x.toInt → 0 ≤ y.toInt → x.toInt < ((logicalSize s.cfg rot).1 : Int) →
      y.toInt < ((logicalSize s.cfg rot).2 : Int) →
      ∃ t, exec (.setPixel rot x y b) s = .next t ∧
        t = { s with fb := t.fb, rsp := 0, rspValid := true, trace := .rsp 0 :: s.trace } ∧
        t.fb.read (pixelOffset s.cfg rot x.toInt.toNat y.toInt.toNat) = some (quantize s.cfg b) ∧
        ∀ a, a ≠ pixelOffset s.cfg rot x.toInt.toNat y.toInt.toNat → t.fb.read a = s.fb.read a)

/-- R148: a draw before the first successful BEGIN changes nothing and responds `OK`. Under the other
value of the parameter of U4 (log entry 10) it stops by name. -/
def Obligations.DrawBeforeBegin : Prop :=
  ∀ (s : State) (i : Instr), s.begun = false → (i = .clear ∨ ∃ rot x y b, i = .setPixel rot x y b) →
    (s.cfg.earlyDraw = .noop →
      exec i s = .next { s with rsp := 0, rspValid := true, trace := .rsp 0 :: s.trace }) ∧
    (s.cfg.earlyDraw = .fault → exec i s = .fault .earlyDraw)

/-- R9: where the window lies inside the interior, SET_PIXEL changes interior samples only. -/
def Obligations.SetPixelInsideInterior : Prop :=
  ∀ (s t : State) (rot : Rotation) (x y : Reg) (b : Byte), s.cfg.WF → s.cfg.WindowInsideInterior →
    exec (.setPixel rot x y b) s = .next t →
    ∀ o, t.fb.read o ≠ s.fb.read o → 9 ≤ o % s.cfg.R ∧ o % s.cfg.R ≤ s.cfg.R - 2

/-- R9, R252: under that premise every step, a CLEAR while running among them, keeps every sync, porch and
tail sample. -/
def Obligations.BlankingSurvivesEveryStep : Prop :=
  ∀ s t : State, s.cfg.WindowInsideInterior → BlankingIntact s → step s = .next t → BlankingIntact t

/-- R141: from the first successful BEGIN on, in every state a run can reach, every element of the buffer
is in `[SYNC, WHITE]`; and from any state in which that holds a step leads to one in which it holds (before
BEGIN it asks nothing). -/
def Obligations.BufferLevelsKept : Prop :=
  (∀ (c : Config) (s : State), c.WF → Reachable c s → s.begun = true → BufferOk s) ∧
  ∀ s t : State, (s.begun = true → BufferOk s) → step s = .next t → (t.begun = true → BufferOk t)

/-! ### CLEAR -/

/-- R146, R149: a CLEAR after BEGIN is accepted: every offset is pending, the port is not ready, nothing
else changes and no response is given yet; until it is over no command is accepted. -/
def Obligations.ClearIsAccepted : Prop :=
  ∀ s : State, s.begun = true →
    ∃ t, exec .clear s = .next t ∧
      t = { s with clrBusy := true, clrPend := List.range (24 * s.cfg.R) } ∧ t.cmdReady = false ∧
      (∀ a, t.fb.read a = s.fb.read a) ∧
      ∀ (u : State) (w : Word) (dma mem : Bool), u.cmdReady = false → presentCommand w dma mem u = .next u

/-- R149: one store of a CLEAR in progress stores one pending element and nothing else; any pending
offset can be the one; with the last of them the CLEAR is over and responds `OK`, and the host's turn of that edge
is taken, since `cmd_ready` is 0 on it (the model's own mark `slot`, DEDUCED, log entry 24). -/
def Obligations.ClearStoresOneElement : Prop :=
  ∀ s : State, s.clrBusy = true → s.clrPend.Nodup →
    (∀ o, o ∈ s.clrPend → ∃ k, o ∉ (s.clearStore k).clrPend) ∧
    ∀ k, s.clrPend ≠ [] → ∃ o, o ∈ s.clrPend ∧
      (s.clearStore k).fb.read o = some (activeSample s.cfg (o % s.cfg.R)) ∧
      (∀ a, a ≠ o → (s.clearStore k).fb.read a = s.fb.read a) ∧
      (∀ a, a ∈ (s.clearStore k).clrPend ↔ a ∈ s.clrPend ∧ a ≠ o) ∧
      ((s.clearStore k).clrPend ≠ [] →
        s.clearStore k = { s with fb := (s.clearStore k).fb, clrPend := (s.clearStore k).clrPend }) ∧
      ((s.clearStore k).clrPend = [] →
        s.clearStore k = { s with fb := (s.clearStore k).fb, clrPend := [], clrBusy := false,
                                  slot := (if s.slot = .engineDone then .fresh else .hostDone),
                                  rsp := 0, rspValid := true, trace := .rsp 0 :: s.trace })

/-- R149: whatever is interleaved with it, while a CLEAR is in progress every offset already stored holds
`ACTIVE_LINE`. -/
def Obligations.ClearProgressKept : Prop :=
  ∀ s t : State, ClearProgress s → step s = .next t → ClearProgress t

/-- R146: when a CLEAR ends other than by a reset, in whatever order its stores were made and whatever the
engine did meanwhile, the buffer is the black frame and the response is `OK`. -/
def Obligations.ClearEndsInBlackFrame : Prop :=
  ∀ s t : State, s.Inv → ClearProgress s → s.clrBusy = true → step s = .next t → t.clrBusy = false →
    t.begun = true →
    t.fb = blackFrame s.cfg ∧ t.rspValid = true ∧ t.rsp = 0 ∧
    ∀ row col, row < 24 → col < s.cfg.R → t.fb.read (row * s.cfg.R + col) = some (activeSample s.cfg col)

/-! ### Beats -/

/-- R131, R132: one beat of XFER_TT_ODD sends `TT_ODD[SPTR]`, one of XFER_TT_EVEN sends `TT_EVEN[SPTR]` to
the DAC and moves on; nothing else changes. R131 and R132 advance where `BCNT` was 1; that `BCNT = 0`, which
no run reaches (R23, R38), counts as the last beat too is the model's reading (DEDUCED, log entry 9). -/
def Obligations.XferTableBeats : Prop :=
  ∀ (s : State) (count next : Reg), s.cfg.WF → next.toNat < 436 →
    (count.toNat = 46 * s.cfg.R → s.sptr.toNat < 46 * s.cfg.R →
      ∃ v t, (ttOdd s.cfg)[s.sptr.toNat]? = some v ∧ exec (.xferTtOdd count next) s = .next t ∧
        t = { s with dacOut := v, dacWr := true, trace := .dac v :: s.trace, didx := t.didx,
                     bcnt := t.bcnt, sptr := t.sptr, draws := t.draws } ∧
        Moved true next s t) ∧
    (count.toNat = 47 * s.cfg.R → s.sptr.toNat < 47 * s.cfg.R →
      ∃ v t, (ttEven s.cfg)[s.sptr.toNat]? = some v ∧ exec (.xferTtEven count next) s = .next t ∧
        t = { s with dacOut := v, dacWr := true, trace := .dac v :: s.trace, didx := t.didx,
                     bcnt := t.bcnt, sptr := t.sptr, draws := t.draws } ∧
        Moved true next s t)

/-- R147, R72: one beat of XFER_ROW sends the value `FB[SPTR]` holds on that tick to the DAC and moves on
as R163 and R164 say; nothing else changes. R147 advances where `BCNT` was 1; that `BCNT = 0`, which no run
reaches (R23, R38), counts as the last beat too is the model's reading (DEDUCED, log entry 9). -/
def Obligations.XferRowBeat : Prop :=
  ∀ (s : State) (count srcoff next : Reg) (row : Nat) (v : Sample), s.cfg.WF → count.toNat = s.cfg.R →
    row < 24 → srcoff.toNat = row * s.cfg.R → next.toNat < 436 →
    s.sptr.toNat < 24 * s.cfg.R → s.fb.read s.sptr.toNat = some v →
    ∃ t, exec (.xferRow count srcoff next) s = .next t ∧
      t = { s with dacOut := v, dacWr := true, trace := .dac v :: s.trace, didx := t.didx,
                   bcnt := t.bcnt, sptr := t.sptr, draws := t.draws } ∧
      Moved true next s t

/-- R191, R192: one beat of MARK_ODD or MARK_EVEN writes the constant to the latch, whatever it held, and
moves on; the DAC is not written and nothing else changes. With `BCNT = 1`, the only count a MARK word has,
moving on is the advance R191 and R192 write; that with `BCNT` above 1, which no run reaches, it counts down
as R163 says is the model's reading (DEDUCED, log entry 9), as is that `BCNT = 0` counts as the last beat. -/
def Obligations.MarkBeats : Prop :=
  ∀ (s : State) (next : Reg), next.toNat < 436 →
    (∃ t, exec (.markOdd next) s = .next t ∧
      t = { s with fieldLatch := 1, didx := t.didx, bcnt := t.bcnt, sptr := t.sptr, draws := t.draws } ∧
      Moved false next s t) ∧
    (∃ t, exec (.markEven next) s = .next t ∧
      t = { s with fieldLatch := 2, didx := t.didx, bcnt := t.bcnt, sptr := t.sptr, draws := t.draws } ∧
      Moved false next s t)

/-- The frame of every descriptor: whatever its beat does, the fault included, the memories, the divider,
the life-cycle flags, a CLEAR in progress and the response port are unchanged, every address of the buffer
reads as before, a video kind leaves the latch and a MARK kind leaves the DAC. -/
def Obligations.DescriptorFrame : Prop :=
  ∀ (i : Instr) (s t : State), i.isDescriptor = true → exec i s = .next t →
    t = { s with dacOut := t.dacOut, dacWr := t.dacWr, trace := t.trace, fieldLatch := t.fieldLatch,
                 didx := t.didx, bcnt := t.bcnt, sptr := t.sptr, draws := t.draws, fault := t.fault,
                 run := t.run } ∧
    (∀ a, t.fb.read a = s.fb.read a) ∧ (∀ a, t.chain.read a = s.chain.read a) ∧
    ((∃ c n, i = .xferTtOdd c n ∨ i = .xferTtEven c n ∨ ∃ o, i = .xferRow c o n) →
      t.fieldLatch = s.fieldLatch) ∧
    ((∃ n, i = .markOdd n ∨ i = .markEven n) →
      t.dacOut = s.dacOut ∧ t.dacWr = s.dacWr ∧ t.trace = s.trace)

/-- R222: the engine fault. A descriptor that is not well-formed, an `undef` or illegal word or a `DIDX`
outside the chain performs no beat, sets `FAULT` and clears `RUN` and changes nothing else; then no edge
does anything; a BEGIN shows `FAULT` in bit 3; only reset clears it; no run that starts from reset has it. -/
def Obligations.BadDescriptorFault : Prop :=
  (∀ (i : Instr) (s : State), i.isDescriptor = true → i.wellFormed s.cfg = false →
    exec i s = .next { s with fault := true, run := false }) ∧
  (∀ s : State, (436 ≤ s.didx.toNat ∨ s.chain.read s.didx.toNat = none ∨
      ∃ d e, s.chain.read s.didx.toNat = some d ∧ decodeD s.cfg d = .error e) →
    beat s = .next { s with fault := true, run := false }) ∧
  (∀ s : State, s.run = false → clockEdge s = .next s) ∧
  (∀ s : State, s.bound = true → s.begun = true → s.fault = true →
    exec .begin s = .next { s with rsp := 0x0009, rspValid := true, trace := .rsp 0x0009 :: s.trace }) ∧
  (∀ s t : State, s.fault = true → step s = .next t → t.fault = true ∨ Resets s) ∧
  (∀ (c : Config) (s : State), c.WF → Reachable c s → s.fault = false)

/-- A beat whose source element is `undef` or out of range is the engine fault too (R29, R61, U1): the
model's reading, log entry 5. -/
def Obligations.UnreadableSourceFaults : Prop :=
  ∀ (s : State) (count srcoff next : Reg),
    (46 * s.cfg.R ≤ s.sptr.toNat → s.cfg.WF →
      exec (.xferTtOdd count next) s = .next { s with fault := true, run := false }) ∧
    (47 * s.cfg.R ≤ s.sptr.toNat → s.cfg.WF →
      exec (.xferTtEven count next) s = .next { s with fault := true, run := false }) ∧
    (24 * s.cfg.R ≤ s.sptr.toNat ∨ s.fb.read s.sptr.toNat = none →
      exec (.xferRow count srcoff next) s = .next { s with fault := true, run := false })

/-- R163: on every pixel tick while `RUN = 1` exactly one beat is performed, and the meanings of the five
kinds are the one beat R163 writes by the fields of the descriptor word. That a source which is `undef` or out
of range is the engine fault too, a case R163 does not write, is the model's reading of R29, R61 and U1
(DEDUCED, log entry 5). -/
def Obligations.BeatFollowsItsFields : Prop :=
  (∀ s : State, beat s = .next (fieldBeat s)) ∧
  (∀ s : State, s.run = true → s.div.toNat + 1 = s.cfg.P →
    clockEdge s = .next (fieldBeat { s with div := 0, pixTick := true, trace := .tick :: s.trace }))

/-- R164: the advance loads `DIDX`, `BCNT` and `SPTR` and nothing else; an ill-formed successor is loaded
all the same and the next beat faults; after the advance to a well-formed one R38's invariant holds. -/
def Obligations.AdvanceLoadsSuccessor : Prop :=
  ∀ (s : State) (t : Reg) (d : Word), s.chain.read t.toNat = some d →
    s.advance t = { s with didx := t, bcnt := dCount d, sptr := dSrcoff d } ∧
    ((∃ e, decodeD s.cfg d = .error e) →
      beat (s.advance t) = .next { s.advance t with fault := true, run := false }) ∧
    (s.cfg.WF → t.toNat < 436 → (∃ i, decodeD s.cfg d = .ok i) → PositionOk (s.advance t))

/-- R74: the beats of the two timing tables read nothing of the frame buffer: their effect does not depend
on its contents. -/
def Obligations.TableBeatsIgnoreBuffer : Prop :=
  ∀ (i : Instr) (s t : State) (m : Memory 16), (∃ c n, i = .xferTtOdd c n ∨ i = .xferTtEven c n) →
    exec i s = .next t → exec i { s with fb := m } = .next { t with fb := m }

/-! ### Divider and schedule -/

/-- R181: the clock step. -/
def Obligations.ClockStep : Prop :=
  ∀ s : State,
    (s.run = true → s.div.toNat = s.cfg.P - 1 → 1 ≤ s.cfg.P →
      clockEdge s = beat { s with div := 0, pixTick := true, trace := .tick :: s.trace }) ∧
    (s.run = true → s.div.toNat ≠ s.cfg.P - 1 → 1 ≤ s.cfg.P → clockEdge s = .next { s with div := s.div + 1 }) ∧
    (s.run = false → clockEdge s = .next s)

/-- R180, R183, R257, R258: with the engine running, `DIV = 0` and nothing from outside, the next `P - 1` steps
only count (the pulses go low with the first of them that opens an edge) and the `P`-th is a pixel tick, after
which `DIV` is 0 again. The step that accepts the first successful BEGIN, whether the engine's step of that edge
came before it or not, leaves `DIV = 0` and the edge over; with nothing from outside the edges 1 to `P - 1` after it have no tick and leave `DAC_OUT` and the latch,
and edge `P` is the first tick, which performs beat 0. That the step of a BEGIN ends its edge is how the model
says R183's "the `P`-th edge after that edge" (DEDUCED, log entry 24). -/
def Obligations.TickEveryPEdges : Prop :=
  (∀ s : State, s.cfg.WF → s.run = true → s.div = 0 → s.inputs = [] → s.clrBusy = false →
    (∀ n, 1 ≤ n → n < s.cfg.P →
      Sys2Proof.core.run n s = .next
        (if n = 1 ∧ s.slot = .hostDone then { s with div := BitVec.ofNat 16 n, slot := .fresh }
        else { s.quiet with div := BitVec.ofNat 16 n, slot := .engineDone })) ∧
    ∃ t : State, Sys2Proof.core.run s.cfg.P s = .next t ∧ t.pixTick = true ∧ t.div = 0) ∧
  ∀ s : State, s.cfg.WF → s.bound = true → s.begun = false → Accepts s .begin true true →
    s.inputs.length = 1 →
    ∃ u : State, step s = .next u ∧ u.run = true ∧ u.slot = .fresh ∧
      (∀ n, n < s.cfg.P → ∃ t : State, Sys2Proof.core.run n u = .next t ∧ t.div = BitVec.ofNat 16 n ∧
        t.dacOut = s.dacOut ∧ t.fieldLatch = s.fieldLatch ∧ t.trace = .rsp 0x0001 :: s.trace ∧
        (1 ≤ n → t.pixTick = false ∧ t.dacWr = false)) ∧
      ∃ t : State, Sys2Proof.core.run s.cfg.P u = .next t ∧ t.pixTick = true ∧ t.div = 0 ∧ t.dacWr = true ∧
        (ttOdd s.cfg)[0]? = some t.dacOut ∧ AtBeat t 1

/-- R168, one beat: at beat `p` of the frame a tick performs the action of the schedule and leads to beat
`p + 1`, beat 0 after the last. -/
def Obligations.FrameScheduleStep : Prop :=
  ∀ (s : State) (p : Nat), s.cfg.WF → s.run = true → s.chain = builtChain s.cfg →
    (∀ o, o < 24 * s.cfg.R → ∃ v, s.fb.read o = some v) →
    p < 525 * s.cfg.R + 2 → AtBeat s p → s.div.toNat + 1 = s.cfg.P →
    ∃ t, clockEdge s = .next t ∧ AtBeat t ((p + 1) % (525 * s.cfg.R + 2)) ∧
      Performed s t (beatPlan s.cfg p).action ∧ t.run = true ∧ t.div = 0 ∧ t.fb = s.fb ∧ t.chain = s.chain

/-- R168, a whole run: from the start of a frame with nothing from outside, after the edges of `k` beats
the machine stands at beat `k mod (525*R + 2)` and has shown exactly the samples of the schedule, one a
tick, none on the two latch ticks. -/
def Obligations.FrameScheduleRun : Prop :=
  ∀ s : State, s.Inv → s.run = true → s.inputs = [] → s.clrBusy = false → s.div = 0 → AtBeat s 0 →
    ∀ k, ∃ t : State, Sys2Proof.core.run (k * s.cfg.P) s = .next t ∧
      AtBeat t (k % (525 * s.cfg.R + 2)) ∧ t.trace = frameTrace s k ++ s.trace ∧
      t.run = true ∧ t.fault = false ∧ t.fb = s.fb

/-- R161: the layout of the chain, index by index. -/
def Obligations.ChainLayout : Prop :=
  ∀ c : Config, c.WF →
    (∃ d, (builtChain c).read 0 = some d ∧
      decodeD c d = .ok (.xferTtOdd (BitVec.ofNat 16 (46 * c.R)) 1)) ∧
    (∀ i, 1 ≤ i → i ≤ 216 → ∃ d, (builtChain c).read i = some d ∧
      decodeD c d = .ok (.xferRow (BitVec.ofNat 16 c.R) (BitVec.ofNat 16 ((i - 1) / 9 * c.R))
        (BitVec.ofNat 16 (i + 1)))) ∧
    (∃ d, (builtChain c).read 217 = some d ∧ decodeD c d = .ok (.markOdd 218)) ∧
    (∃ d, (builtChain c).read 218 = some d ∧
      decodeD c d = .ok (.xferTtEven (BitVec.ofNat 16 (47 * c.R)) 219)) ∧
    (∀ i, 219 ≤ i → i ≤ 434 → ∃ d, (builtChain c).read i = some d ∧
      decodeD c d = .ok (.xferRow (BitVec.ofNat 16 c.R) (BitVec.ofNat 16 ((i - 219) / 9 * c.R))
        (BitVec.ofNat 16 (i + 1)))) ∧
    (∃ d, (builtChain c).read 435 = some d ∧ decodeD c d = .ok (.markEven 0)) ∧
    (∀ i, 436 ≤ i → (builtChain c).read i = none)

/-- R167: the chain invariants, and that `CHAIN` is the built chain in every state a run can reach from
BEGIN on. -/
def Obligations.ChainInvariants : Prop :=
  ∀ c : Config, c.WF →
    (builtChain c).length = 436 ∧
    (∀ s : State, Reachable c s → s.begun = true → ∀ i, i < 436 → s.chain.read i = some (chainBuild c i)) ∧
    (∀ i, i < 436 → decodeD c (chainBuild c i) = .ok (chainInstr c i) ∧
      (dNext (chainBuild c i)).toNat = (i + 1) % 436) ∧
    (∀ k, (fun j => (dNext (chainBuild c j)).toNat)^[k] 0 = k % 436) ∧
    (∀ i, i < 436 → (dDst (chainBuild c i) = 1 ↔ i = 217 ∨ i = 435)) ∧
    (List.range 436).countP (fun i => dDst (chainBuild c i) = 1) = 2 ∧
    (List.range 436).countP (fun i => dDst (chainBuild c i) = 0) = 434 ∧
    (List.range 436).countP (fun i => dSrc (chainBuild c i) = 2) = 432 ∧
    (∀ row, row < 24 → (List.range 436).countP
      (fun i => dSrc (chainBuild c i) = 2 ∧ (dSrcoff (chainBuild c i)).toNat = row * c.R) = 18) ∧
    ((List.range 436).map fun i => (dCount (chainBuild c i)).toNat).sum = 525 * c.R + 2

/-! ### Latch commands -/

/-- R193, R194: in every state SET_FIELD_HINT stores whatever byte it carries and answers `OK`, and
GET_FIELD answers `OK` with the latch and changes nothing; the latch is 0 after reset, and once it holds
another value only a SET_FIELD_HINT of 0 or a reset makes it 0 again. -/
def Obligations.LatchCommands : Prop :=
  (∀ (s : State) (v : Byte),
    exec (.setFieldHint v) s =
      .next { s with fieldLatch := v, rsp := 0, rspValid := true, trace := .rsp 0 :: s.trace } ∧
    exec .getField s =
      .next { s with rsp := 0x00#8 ++ s.fieldLatch, rspValid := true,
                     trace := .rsp (0x00#8 ++ s.fieldLatch) :: s.trace }) ∧
  (∀ (c : Config) (dac : Sample), (State.resetWith c dac).fieldLatch = 0) ∧
  (∀ s t : State, step s = .next t → s.fieldLatch ≠ 0 → t.fieldLatch = 0 →
    (∃ dma mem, Accepts s (.setFieldHint 0) dma mem) ∨ Resets s)

/-- R28: in every step the latch changes only by a MARK_ODD beat to 1, by a MARK_EVEN beat to 2, by
SET_FIELD_HINT to its value, or by reset to 0. -/
def Obligations.LatchWritersOnly : Prop :=
  ∀ s t : State, step s = .next t → t.fieldLatch ≠ s.fieldLatch →
    (Ticks s ∧ (∃ n, Current s (.markOdd n)) ∧ t.fieldLatch = 1) ∨
    (Ticks s ∧ (∃ n, Current s (.markEven n)) ∧ t.fieldLatch = 2) ∨
    (∃ v dma mem, Accepts s (.setFieldHint v) dma mem ∧ t.fieldLatch = v) ∨
    (Resets s ∧ t.fieldLatch = 0)

/-- R28: a host that keeps its duty (it writes only 0) never sees a latch value but 0, 1 and 2. -/
def Obligations.LatchLegalUnderDuty : Prop :=
  ∀ s t : State, HostDuty s → LatchLegal s → step s = .next t → HostDuty t ∧ LatchLegal t

/-! ### Host control -/

/-- R201: CREATE with the supported mode binds, with another it raises `UnsupportedMode`. -/
def Obligations.CreateResult : Prop :=
  ∀ (s : State) (mode : Byte),
    (mode = s.cfg.modeId →
      exec (.create mode) s =
        .next { s with bound := true, rsp := 0, rspValid := true, trace := .rsp 0 :: s.trace }) ∧
    (mode ≠ s.cfg.modeId →
      exec (.create mode) s =
        .next { s with rsp := 0x02#8 ++ mode, rspValid := true, trace := .rsp (0x02#8 ++ mode) :: s.trace })

/-- R202, R205, R206, R226: what BEGIN answers, its checks in order. Before CREATE `NotBound`; after a
success `OK` with `FAULT` in bit 3; else without a resource `ResourceExhausted` with both causes; none of
these changes any state; with both resources the start of R204 and the answer true. Of the model's
own mark `slot` the last clause says nothing (`TickEveryPEdges` does). -/
def Obligations.BeginAnswers : Prop :=
  ∀ s : State,
    (s.bound = false → exec .begin s =
      .next { s with rsp := 0x0400, rspValid := true, trace := .rsp 0x0400 :: s.trace }) ∧
    (s.bound = true → s.begun = true → exec .begin s =
      .next { s with rsp := (if s.fault then 0x0009 else 0x0001), rspValid := true,
                     trace := .rsp (if s.fault then 0x0009 else 0x0001) :: s.trace }) ∧
    (s.bound = true → s.begun = false → (s.dmaAvail = false ∨ s.memAvail = false) →
      ∃ r : BitVec 16, r.toNat = 0x0100 + (if s.memAvail then 0 else 4) + (if s.dmaAvail then 0 else 2) ∧
        exec .begin s = .next { s with rsp := r, rspValid := true, trace := .rsp r :: s.trace }) ∧
    (s.bound = true → s.begun = false → s.dmaAvail = true → s.memAvail = true →
      ∃ t, exec .begin s = .next t ∧ t = { s.beginSuccess.respond 0x00 0x01 with slot := t.slot })

/-- R204: the first success of BEGIN. It fills the buffer, builds the chain, makes descriptor 0 current,
starts the divider and the engine, answers true, and changes nothing else of the block; then R38, R141 and
R167's chain hold. Of the model's own mark `slot` it says nothing (`TickEveryPEdges` does). -/
def Obligations.BeginStarts : Prop :=
  ∀ s : State, s.cfg.WF → s.bound = true → s.begun = false → s.dmaAvail = true → s.memAvail = true →
    ∃ t, exec .begin s = .next t ∧
      t = { s with fb := t.fb, chain := t.chain, didx := 0, bcnt := BitVec.ofNat 16 (46 * s.cfg.R), sptr := 0,
                   div := 0, begun := true, run := true, slot := t.slot, rsp := 0x0001, rspValid := true,
                   trace := .rsp 0x0001 :: s.trace } ∧
      (∀ row col, row < 24 → col < s.cfg.R →
        t.fb.read (row * s.cfg.R + col) = some (activeSample s.cfg col)) ∧
      (∀ i, i < 436 → t.chain.read i = some (chainBuild s.cfg i)) ∧
      PositionOk t ∧ BufferOk t ∧ AtBeat t 0

/-- R207: STOP clears `RUN`, answers `OK` and changes nothing else. -/
def Obligations.StopResult : Prop :=
  ∀ s : State, exec .stop s =
    .next { s with run := false, rsp := 0, rspValid := true, trace := .rsp 0 :: s.trace }

/-- R207, R234: a begun engine that does not run stays stopped for ever but for a reset: no step moves the
position, the divider, the chain or the DAC, ticks or writes the DAC. R207 and R234 say nothing of pulses: the
clauses that no pulse is raised again, and that those of the edge on which it stopped are low after an edge move
made while `slot` is not `hostDone`, are the model's reading of R12's one-edge pulses (DESIGN CHOICE, log entry
15) and of how the agents share an edge (DEDUCED, log entry 24). -/
def Obligations.StoppedForGood : Prop :=
  ∀ s t : State, s.begun = true → s.run = false → step s = .next t → ¬ Resets s →
    t.begun = true ∧ t.run = false ∧ t.didx = s.didx ∧ t.bcnt = s.bcnt ∧ t.sptr = s.sptr ∧
    t.div = s.div ∧ t.chain = s.chain ∧ t.dacOut = s.dacOut ∧
    (t.dacWr = true → s.dacWr = true) ∧ (t.pixTick = true → s.pixTick = true) ∧
    (s.slot ≠ .hostDone → s.inputs.head? = some .edge → t.dacWr = false ∧ t.pixTick = false) ∧
    (t.trace = s.trace ∨ ∃ r, t.trace = .rsp r :: s.trace)

/-- R217: a command that answers an error changes no state: beside the response only a BEGIN that samples the
availability inputs shows them (R203). -/
def Obligations.CommandErrorsChangeNothing : Prop :=
  ∀ (w : Word) (dma mem : Bool) (s t : State), presentCommand w dma mem s = .next t →
    s.rspValid = false → t.rspValid = true → t.rsp.extractLsb' 8 8 ≠ 0 →
    t = { s with rsp := t.rsp, rspValid := true, trace := .rsp t.rsp :: s.trace,
                 dmaAvail := t.dmaAvail, memAvail := t.memAvail } ∧
    (if decodeCommand w = .ok .begin ∧ s.bound = true ∧ s.begun = false then
      t.dmaAvail = dma ∧ t.memAvail = mem
    else t.dmaAvail = s.dmaAvail ∧ t.memAvail = s.memAvail)

/-- R216: an accepted command answers at once with one response whose status is one of the five, or it is
a CLEAR whose response is still to come. R12, U16: at most one command is accepted on an edge of `clk`; after
an acceptance that opened an edge no step accepts another before the engine took its step of that edge, while
a store of a CLEAR, any number of which fit on an edge, changes nothing of that; on the edge of a CLEAR's last
store, where `cmd_ready` is 0, no command is accepted either. The pulses last for the edge: an acceptance on the
edge of a tick leaves that tick's pulses high, one that opens an edge finds them low. How the agents share an edge is the
model's reading (DEDUCED, log entry 24). The edge of the BEGIN that starts the engine is over with it (R183). -/
def Obligations.OneResponsePerCommand : Prop :=
  (∀ (w : Word) (dma mem : Bool) (s t : State), s.clrBusy = false → presentCommand w dma mem s = .next t →
    (t.rspValid = true ∧ t.trace = .rsp t.rsp :: s.trace ∧ (t.rsp.extractLsb' 8 8).toNat ≤ 4) ∨
    (decodeCommand w = .ok .clear ∧ s.begun = true ∧ t.clrBusy = true ∧ t.trace = s.trace)) ∧
  (∀ (s t : State) (i : Instr) (dma mem : Bool), Accepts s i dma mem → step s = .next t →
    (s.slot = .fresh → t.slot =
      (if i = .begin ∧ s.bound = true ∧ s.begun = false ∧ dma = true ∧ mem = true then .fresh else .hostDone)) ∧
    (s.slot = .engineDone → t.slot = .fresh) ∧
    (s.slot = .fresh → t.dacWr = false ∧ t.pixTick = false) ∧
    (s.slot = .engineDone → t.dacWr = s.dacWr ∧ t.pixTick = s.pixTick)) ∧
  (∀ (s : State) (i : Instr) (dma mem : Bool), s.slot = .hostDone → ¬ Accepts s i dma mem) ∧
  (∀ s t : State, s.slot = .hostDone → step s = .next t →
    ∃ u : State, u = { s with inputs := u.inputs, draws := u.draws } ∧
      ((∃ k, t = u.clearStore k) ∨ clockEdge { u with slot := .fresh } = .next t)) ∧
  (∀ s t : State, s.clrBusy = true → step s = .next t → t.clrBusy = false →
    t.slot = (if s.slot = .engineDone then .fresh else .hostDone) ∨ Resets s)

/-! ### The whole machine -/

/-- When the current descriptor decodes, the edge of a pixel tick is `exec` of it, after the move was
taken off the list, the engine took its turn of the edge and the tick was started. When the port is ready, no command was accepted on this edge before and the word presented decodes,
the step is `exec` of it, after the move was taken off the list, the host took its turn of the edge and, for a BEGIN with `BOUND = 1` and `BEGUN = 0` alone, the availability inputs were sampled
(R12, R203). Where the host has acted on this edge first, the step is the engine's of it and a command or
a reset stays listed: one command for an edge (R12, U16). A turn that opens an edge makes the pulses low, one on an
open edge keeps them (R12). How the two agents share an edge is DEDUCED, log entry 24. -/
def Obligations.StepRunsDecodedInstruction : Prop :=
  ∀ (s : State) (rest : List Input) (i : Instr), s.cfg.WF →
    (∀ d : Word, s.inputs = .edge :: rest → s.run = true → s.div.toNat + 1 = s.cfg.P →
      s.didx.toNat < 436 → s.chain.read s.didx.toNat = some d → decodeDescriptor d = .ok i →
      step s = exec i (State.tickStart (State.engineTurn { s with inputs := rest }))) ∧
    (∀ (w : Word) (dma mem : Bool), s.inputs = .command w dma mem :: rest → s.clrBusy = false →
      s.slot ≠ .hostDone → decodeCommand w = .ok i →
      step s = exec i
        (if i = .begin ∧ s.bound = true ∧ s.begun = false then
          State.sample dma mem (State.hostTurn { s with inputs := rest })
        else State.hostTurn { s with inputs := rest })) ∧
    (∀ m : Input, s.inputs = m :: rest → (∃ w dma mem, m = .command w dma mem) ∨ (∃ dac, m = .reset dac) →
      s.slot = .hostDone →
      step s = clockEdge { s with slot := .fresh }) ∧
    ((s.slot = .hostDone → s.engineTurn = { s with slot := .fresh }) ∧
      (s.slot ≠ .hostDone → s.engineTurn = { s.quiet with slot := .engineDone }) ∧
      (s.clrBusy = false → s.slot = .engineDone → s.hostTurn = { s with slot := .fresh }) ∧
      (s.clrBusy = false → s.slot = .fresh → s.hostTurn = { s.quiet with slot := .hostDone }))

/-- R245: a rising edge with `rst = 1` puts every element at its reset value, whatever the block was
doing; `DAC_OUT` holds whatever was drawn. Three parts are the model's choice: that `DAC_OUT`, `undef` by
R245, is the value the move carries (DESIGN CHOICE, log entry 7); that no edge is open after a reset, the clause
`t.slot = .fresh` (DESIGN CHOICE, log entry 24); and the premise on `slot`, since a reset listed while the
host has acted on an edge that still waits for the engine's step is made on the next edge (DEDUCED, log entry
24; `StepRunsDecodedInstruction` says what the step then is). -/
def Obligations.ResetClearsEverything : Prop :=
  ∀ (s : State) (rest : List Input) (dac : Sample), s.cfg.WF → s.slot ≠ .hostDone →
    s.inputs = .reset dac :: rest →
    ∃ t, step s = .next t ∧
      t.bound = false ∧ t.begun = false ∧ t.run = false ∧ t.fault = false ∧ t.clrBusy = false ∧
      t.fieldLatch = 0 ∧ t.didx = 0 ∧ t.bcnt = 0 ∧ t.sptr = 0 ∧ t.div = 0 ∧ t.clrPend = [] ∧
      t.dacOut = dac ∧ (∀ a, t.fb.read a = none) ∧ (∀ a, t.chain.read a = none) ∧
      t.rspValid = false ∧ t.dacWr = false ∧ t.pixTick = false ∧ t.trace = s.trace ∧ t.inputs = rest ∧
      t.slot = .fresh

/-- R21, R8, U6: no step changes the configuration; an ill-formed one is refused by every step, and under a
well-formed one no step is refused (that the refusal is a step's outcome is the model's reading, DEDUCED, log
entry 12). -/
def Obligations.ConfigurationIsFixed : Prop :=
  (∀ s t : State, step s = .next t → t.cfg = s.cfg) ∧
  (∀ s : State, ¬ s.cfg.WF → step s = .refused .illFormedConfig) ∧
  (∀ (s : State) (r : Refusal), s.cfg.WF → step s ≠ .refused r)

/-- The invariant of a run holds right after reset, for every well-formed configuration and every draw. -/
def Obligations.InvariantAtReset : Prop :=
  ∀ (c : Config) (dac : Sample), c.WF → (State.resetWith c dac).Inv

/-- Every step keeps the invariant of a run: R38's position, R141's levels, R166's chain, the canonical
form of the buffer, R34's pending set, and no engine fault. -/
def Obligations.InvariantKept : Prop :=
  ∀ s t : State, s.Inv → step s = .next t → t.Inv

/-- R38: in every state a run can reach, while the engine runs the working registers stand inside a
well-formed current descriptor. -/
def Obligations.PositionInEveryRun : Prop :=
  ∀ (c : Config) (s : State), c.WF → Reachable c s → s.run = true → PositionOk s

/-- R215, R222: in every state a run can reach, whatever the outside world does, there is no engine fault,
and where draws before BEGIN are no-ops the machine always has a next state. -/
def Obligations.RunsNeverFaultOrStop : Prop :=
  ∀ (c : Config) (s : State), c.WF → Reachable c s →
    s.fault = false ∧ (c.earlyDraw = .noop → ∃ t, step s = .next t)

/-- R29: the four flags change only as its table lists. Beside the `undef` and illegal words of the table
`FAULT` is set by a beat whose source is out of range: R61 and U1 call that an engine fault, and that it has
R222's effect is the model's reading (DEDUCED, log entry 5). -/
def Obligations.FlagsChangeOnlyAsListed : Prop :=
  ∀ s t : State, step s = .next t →
    (t.bound ≠ s.bound → (t.bound = true ∧ ∃ dma mem, Accepts s (.create s.cfg.modeId) dma mem) ∨
      (t.bound = false ∧ Resets s)) ∧
    (t.begun ≠ s.begun → (t.begun = true ∧ Accepts s .begin true true ∧ s.bound = true) ∨
      (t.begun = false ∧ Resets s)) ∧
    (t.run ≠ s.run →
      (t.run = true ∧ Accepts s .begin true true ∧ s.bound = true ∧ s.begun = false) ∨
      (t.run = false ∧ ((∃ dma mem, Accepts s .stop dma mem) ∨ (Ticks s ∧ t.fault = true) ∨ Resets s))) ∧
    (t.fault ≠ s.fault → (t.fault = true ∧ Ticks s ∧ t.run = false ∧
        ((∀ i, ¬ Current s i) ∨ ∃ d, fetchDescriptor s = some d ∧ sourceElement s d = none)) ∨
      (t.fault = false ∧ Resets s))

/-- R166: the chain is written by the first successful BEGIN, wholly, and by nothing else; reset forgets
it. -/
def Obligations.ChainWrittenOnlyByBegin : Prop :=
  (∀ s : State, s.bound = true → s.begun = false → s.dmaAvail = true → s.memAvail = true →
    ∃ t, exec .begin s = .next t ∧ t.run = true ∧
      ∀ i, i < 436 → t.chain.read i = some (chainBuild s.cfg i)) ∧
  (∀ s t : State, step s = .next t → t.chain ≠ s.chain →
    (Accepts s .begin true true ∧ s.bound = true ∧ s.begun = false ∧ t.chain = builtChain s.cfg) ∨
    (Resets s ∧ t.chain = []))

/-- R27: `DAC_OUT` changes only on a pixel tick whose beat writes the DAC, and by reset. -/
def Obligations.DacWrittenOnlyByVideoBeat : Prop :=
  ∀ s t : State, step s = .next t → t.dacOut ≠ s.dacOut →
    (Ticks s ∧ t.dacWr = true ∧ t.trace = .dac t.dacOut :: .tick :: s.trace ∧
      ∃ i, Current s i ∧ ∃ c n, i = .xferTtOdd c n ∨ i = .xferTtEven c n ∨ ∃ o, i = .xferRow c o n) ∨
    Resets s

/-- The buffer changes only by the store of an accepted SET_PIXEL, a store of a CLEAR, the fill of BEGIN
and reset (R31, R36). -/
def Obligations.BufferWrittenOnlyByHost : Prop :=
  ∀ s t : State, step s = .next t → t.fb ≠ s.fb →
    (∃ rot x y b dma mem, Accepts s (.setPixel rot x y b) dma mem ∧ s.begun = true ∧
      t.fb = s.fb.write (pixelOffset s.cfg rot x.toNat y.toNat) (quantize s.cfg b)) ∨
    (s.clrBusy = true ∧ ∃ o, o ∈ s.clrPend ∧ t.fb = s.fb.write o (activeSample s.cfg (o % s.cfg.R))) ∨
    (Accepts s .begin true true ∧ s.begun = false ∧ t.fb = blackFrame s.cfg) ∨
    (Resets s ∧ t.fb = [])

/-- R229: in a run the life-cycle state changes only by reset, a good CREATE, a good BEGIN and STOP. -/
def Obligations.LifeCycleTransitions : Prop :=
  ∀ s t : State, s.Inv → step s = .next t → t.phase ≠ s.phase →
    (Resets s ∧ t.phase = .unbound) ∨
    (s.phase = .unbound ∧ (∃ dma mem, Accepts s (.create s.cfg.modeId) dma mem) ∧ t.phase = .bound) ∨
    (s.phase = .bound ∧ Accepts s .begin true true ∧ t.phase = .running) ∨
    (s.phase = .running ∧ (∃ dma mem, Accepts s .stop dma mem) ∧ t.phase = .stopped)
end

