-- ==== Sys2Proof/Laws/Fields.lean ====
section
/-! SUPPORT. The fields of an encoded word: reading a field of `encodeD64` or `encodeH64` gives what was
put there. -/

namespace Sys2Proof

/-- A field inside the low part of a concatenation. -/
theorem extract_low {v w : Nat} (hi : BitVec v) (lo : BitVec w) (s l : Nat) (h : s + l ≤ w) :
    (hi ++ lo).extractLsb' s l = lo.extractLsb' s l := by
  apply BitVec.eq_of_getLsbD_eq
  intro i hi'
  simp only [BitVec.getLsbD_extractLsb', hi', decide_true, Bool.true_and, BitVec.getLsbD_append]
  rw [if_pos (by omega)]

/-- A field above the low part of a concatenation. -/
theorem extract_high {v w : Nat} (hi : BitVec v) (lo : BitVec w) (s l : Nat) (h : w ≤ s) :
    (hi ++ lo).extractLsb' s l = hi.extractLsb' (s - w) l := by
  apply BitVec.eq_of_getLsbD_eq
  intro i hi'
  simp only [BitVec.getLsbD_extractLsb', hi', decide_true, Bool.true_and, BitVec.getLsbD_append]
  rw [if_neg (by omega)]
  congr 1; omega

variable (src : BitVec 2) (dst width srcinc dstinc : BitVec 1) (count srcoff next : Reg)

@[simp] theorem dNext_encodeD64 :
    dNext (encodeD64 src dst width srcinc dstinc count srcoff next) = next := by
  unfold dNext encodeD64
  refine (extract_low (w := 16) _ _ 0 16 (by decide)).trans ?_
  exact BitVec.extractLsb'_eq_self

@[simp] theorem dSrcoff_encodeD64 :
    dSrcoff (encodeD64 src dst width srcinc dstinc count srcoff next) = srcoff := by
  unfold dSrcoff encodeD64
  refine (extract_high (w := 16) _ _ 16 16 (by decide)).trans ?_
  refine (extract_low (w := 16) _ _ 0 16 (by decide)).trans ?_
  exact BitVec.extractLsb'_eq_self

@[simp] theorem dCount_encodeD64 :
    dCount (encodeD64 src dst width srcinc dstinc count srcoff next) = count := by
  unfold dCount encodeD64
  refine (extract_high (w := 16) _ _ 32 16 (by decide)).trans ?_
  refine (extract_high (w := 16) _ _ 16 16 (by decide)).trans ?_
  refine (extract_low (w := 16) _ _ 0 16 (by decide)).trans ?_
  exact BitVec.extractLsb'_eq_self

@[simp] theorem dRsv_encodeD64 :
    dRsv (encodeD64 src dst width srcinc dstinc count srcoff next) = 0 := by
  unfold dRsv encodeD64
  refine (extract_high (w := 16) _ _ 48 10 (by decide)).trans ?_
  refine (extract_high (w := 16) _ _ 32 10 (by decide)).trans ?_
  refine (extract_high (w := 16) _ _ 16 10 (by decide)).trans ?_
  refine (extract_low (w := 10) _ _ 0 10 (by decide)).trans ?_
  exact BitVec.extractLsb'_eq_self

@[simp] theorem dDstinc_encodeD64 :
    dDstinc (encodeD64 src dst width srcinc dstinc count srcoff next) = dstinc := by
  unfold dDstinc encodeD64
  refine (extract_high (w := 16) _ _ 58 1 (by decide)).trans ?_
  refine (extract_high (w := 16) _ _ 42 1 (by decide)).trans ?_
  refine (extract_high (w := 16) _ _ 26 1 (by decide)).trans ?_
  refine (extract_high (w := 10) _ _ 10 1 (by decide)).trans ?_
  refine (extract_low (w := 1) _ _ 0 1 (by decide)).trans ?_
  exact BitVec.extractLsb'_eq_self

@[simp] theorem dSrcinc_encodeD64 :
    dSrcinc (encodeD64 src dst width srcinc dstinc count srcoff next) = srcinc := by
  unfold dSrcinc encodeD64
  refine (extract_high (w := 16) _ _ 59 1 (by decide)).trans ?_
  refine (extract_high (w := 16) _ _ 43 1 (by decide)).trans ?_
  refine (extract_high (w := 16) _ _ 27 1 (by decide)).trans ?_
  refine (extract_high (w := 10) _ _ 11 1 (by decide)).trans ?_
  refine (extract_high (w := 1) _ _ 1 1 (by decide)).trans ?_
  refine (extract_low (w := 1) _ _ 0 1 (by decide)).trans ?_
  exact BitVec.extractLsb'_eq_self

@[simp] theorem dWidth_encodeD64 :
    dWidth (encodeD64 src dst width srcinc dstinc count srcoff next) = width := by
  unfold dWidth encodeD64
  refine (extract_high (w := 16) _ _ 60 1 (by decide)).trans ?_
  refine (extract_high (w := 16) _ _ 44 1 (by decide)).trans ?_
  refine (extract_high (w := 16) _ _ 28 1 (by decide)).trans ?_
  refine (extract_high (w := 10) _ _ 12 1 (by decide)).trans ?_
  refine (extract_high (w := 1) _ _ 2 1 (by decide)).trans ?_
  refine (extract_high (w := 1) _ _ 1 1 (by decide)).trans ?_
  refine (extract_low (w := 1) _ _ 0 1 (by decide)).trans ?_
  exact BitVec.extractLsb'_eq_self

@[simp] theorem dDst_encodeD64 :
    dDst (encodeD64 src dst width srcinc dstinc count srcoff next) = dst := by
  unfold dDst encodeD64
  refine (extract_high (w := 16) _ _ 61 1 (by decide)).trans ?_
  refine (extract_high (w := 16) _ _ 45 1 (by decide)).trans ?_
  refine (extract_high (w := 16) _ _ 29 1 (by decide)).trans ?_
  refine (extract_high (w := 10) _ _ 13 1 (by decide)).trans ?_
  refine (extract_high (w := 1) _ _ 3 1 (by decide)).trans ?_
  refine (extract_high (w := 1) _ _ 2 1 (by decide)).trans ?_
  refine (extract_high (w := 1) _ _ 1 1 (by decide)).trans ?_
  refine (extract_low (w := 1) _ _ 0 1 (by decide)).trans ?_
  exact BitVec.extractLsb'_eq_self

@[simp] theorem dSrc_encodeD64 :
    dSrc (encodeD64 src dst width srcinc dstinc count srcoff next) = src := by
  unfold dSrc encodeD64
  refine (extract_high (w := 16) _ _ 62 2 (by decide)).trans ?_
  refine (extract_high (w := 16) _ _ 46 2 (by decide)).trans ?_
  refine (extract_high (w := 16) _ _ 30 2 (by decide)).trans ?_
  refine (extract_high (w := 10) _ _ 14 2 (by decide)).trans ?_
  refine (extract_high (w := 1) _ _ 4 2 (by decide)).trans ?_
  refine (extract_high (w := 1) _ _ 3 2 (by decide)).trans ?_
  refine (extract_high (w := 1) _ _ 2 2 (by decide)).trans ?_
  refine (extract_high (w := 1) _ _ 1 2 (by decide)).trans ?_
  exact BitVec.extractLsb'_eq_self

@[simp] theorem dKind_encodeD64 :
    dKind (encodeD64 src dst width srcinc dstinc count srcoff next) = src ++ dst ++ width ++ srcinc ++ dstinc := by
  unfold dKind encodeD64
  refine (extract_high (w := 16) _ _ 58 6 (by decide)).trans ?_
  refine (extract_high (w := 16) _ _ 42 6 (by decide)).trans ?_
  refine (extract_high (w := 16) _ _ 26 6 (by decide)).trans ?_
  refine (extract_high (w := 10) _ _ 10 6 (by decide)).trans ?_
  exact BitVec.extractLsb'_eq_self

@[simp] theorem dTop_encodeD64 :
    dTop (encodeD64 src dst width srcinc dstinc count srcoff next) = src ++ dst ++ width ++ srcinc ++ dstinc ++ (0 : BitVec 10) := by
  unfold dTop encodeD64
  refine (extract_high (w := 16) _ _ 48 16 (by decide)).trans ?_
  refine (extract_high (w := 16) _ _ 32 16 (by decide)).trans ?_
  refine (extract_high (w := 16) _ _ 16 16 (by decide)).trans ?_
  exact BitVec.extractLsb'_eq_self

@[simp] theorem dImm8_encodeD64 :
    dImm8 (encodeD64 src dst width srcinc dstinc count srcoff next) = srcoff.extractLsb' 0 8 := by
  unfold dImm8 encodeD64
  refine (extract_high (w := 16) _ _ 16 8 (by decide)).trans ?_
  refine (extract_low (w := 16) _ _ 0 8 (by decide)).trans ?_
  rfl

variable (op : BitVec 4) (rot : BitVec 2) (x y : Reg) (val : Byte)

@[simp] theorem hVal_encodeH64 : hVal (encodeH64 op rot x y val) = val := by
  unfold hVal encodeH64
  refine (extract_low (w := 8) _ _ 0 8 (by decide)).trans ?_
  exact BitVec.extractLsb'_eq_self

@[simp] theorem hY_encodeH64 : hY (encodeH64 op rot x y val) = y := by
  unfold hY encodeH64
  refine (extract_high (w := 8) _ _ 8 16 (by decide)).trans ?_
  refine (extract_low (w := 16) _ _ 0 16 (by decide)).trans ?_
  exact BitVec.extractLsb'_eq_self

@[simp] theorem hX_encodeH64 : hX (encodeH64 op rot x y val) = x := by
  unfold hX encodeH64
  refine (extract_high (w := 8) _ _ 24 16 (by decide)).trans ?_
  refine (extract_high (w := 16) _ _ 16 16 (by decide)).trans ?_
  refine (extract_low (w := 16) _ _ 0 16 (by decide)).trans ?_
  exact BitVec.extractLsb'_eq_self

@[simp] theorem hRsv_encodeH64 : hRsv (encodeH64 op rot x y val) = 0 := by
  unfold hRsv encodeH64
  refine (extract_high (w := 8) _ _ 40 18 (by decide)).trans ?_
  refine (extract_high (w := 16) _ _ 32 18 (by decide)).trans ?_
  refine (extract_high (w := 16) _ _ 16 18 (by decide)).trans ?_
  refine (extract_low (w := 18) _ _ 0 18 (by decide)).trans ?_
  exact BitVec.extractLsb'_eq_self

@[simp] theorem hRot_encodeH64 : hRot (encodeH64 op rot x y val) = rot := by
  unfold hRot encodeH64
  refine (extract_high (w := 8) _ _ 58 2 (by decide)).trans ?_
  refine (extract_high (w := 16) _ _ 50 2 (by decide)).trans ?_
  refine (extract_high (w := 16) _ _ 34 2 (by decide)).trans ?_
  refine (extract_high (w := 18) _ _ 18 2 (by decide)).trans ?_
  refine (extract_low (w := 2) _ _ 0 2 (by decide)).trans ?_
  exact BitVec.extractLsb'_eq_self

@[simp] theorem hOp_encodeH64 : hOp (encodeH64 op rot x y val) = op := by
  unfold hOp encodeH64
  refine (extract_high (w := 8) _ _ 60 4 (by decide)).trans ?_
  refine (extract_high (w := 16) _ _ 52 4 (by decide)).trans ?_
  refine (extract_high (w := 16) _ _ 36 4 (by decide)).trans ?_
  refine (extract_high (w := 18) _ _ 20 4 (by decide)).trans ?_
  refine (extract_high (w := 2) _ _ 2 4 (by decide)).trans ?_
  exact BitVec.extractLsb'_eq_self

@[simp] theorem rotationOf_rotationBits (r : Rotation) : rotationOf (rotationBits r) = r := by
  cases r <;> rfl

end Sys2Proof
end

