-- ==== Sys2Proof/Laws/Decode.lean ====
section
/-! SUPPORT. The two readings of a descriptor word agree: `decodeD` (R97) accepts exactly the words whose
row is selected (R98) and whose row's conditions hold (R95). -/

namespace Sys2Proof

/-- The top 16 bits of a descriptor word are its kind and its reserved field (R92). -/
theorem dTop_toNat (d : Word) : (dTop d).toNat = (dKind d).toNat * 1024 + (dRsv d).toNat := by
  simp only [dTop, dKind, dRsv, BitVec.extractLsb'_toNat, Nat.shiftRight_eq_div_pow]
  have := d.isLt
  omega

theorem dTop_eq_iff (d : Word) (k : BitVec 6) (t : BitVec 16) (ht : t.toNat = k.toNat * 1024) :
    dTop d = t ↔ dKind d = k ∧ dRsv d = 0 := by
  have h := dTop_toNat d
  have hr := (dRsv d).isLt
  have h0 : (0 : BitVec 10).toNat = 0 := rfl
  rw [← BitVec.toNat_inj, ← BitVec.toNat_inj, ← BitVec.toNat_inj]
  omega

theorem decodeDescriptor_rsv {d : Word} {i : Instr} (h : decodeDescriptor d = .ok i) : dRsv d = 0 := by
  have k1 := dTop_eq_iff d 0b000110 0x1800 rfl
  have k2 := dTop_eq_iff d 0b010110 0x5800 rfl
  have k3 := dTop_eq_iff d 0b100110 0x9800 rfl
  have k4 := dTop_eq_iff d 0b111000 0xE000 rfl
  unfold decodeDescriptor at h
  repeat' split at h
  all_goals first
    | (cases h; done)
    | exact (k1.1 (by first | assumption | exact And.left (by assumption))).2
    | exact (k2.1 (by first | assumption | exact And.left (by assumption))).2
    | exact (k3.1 (by first | assumption | exact And.left (by assumption))).2
    | exact (k4.1 (by first | assumption | exact And.left (by assumption))).2

/-- R97 by R98 and R95. -/
theorem decodeD_ok_iff (c : Config) (d : Word) (i : Instr) :
    decodeD c d = .ok i ↔ decodeDescriptor d = .ok i ∧ i.wellFormed c = true := by
  have k1 := dTop_eq_iff d 0b000110 0x1800 rfl
  have k2 := dTop_eq_iff d 0b010110 0x5800 rfl
  have k3 := dTop_eq_iff d 0b100110 0x9800 rfl
  have k4 := dTop_eq_iff d 0b111000 0xE000 rfl
  constructor
  · intro h
    unfold decodeD at h
    repeat' split at h
    all_goals first
      | (cases h; done)
      | (cases h; simp_all [decodeDescriptor, Instr.wellFormed]; try assumption)
  · rintro ⟨h, hw⟩
    unfold decodeDescriptor at h
    repeat' split at h
    all_goals first
      | (cases h; done)
      | (cases h; simp_all [decodeD, Instr.wellFormed])

end Sys2Proof
end

