-- ==== Sys2Proof/Laws/Memory.lean ====
section
/-! SUPPORT. The laws of an element-addressed memory: read after write, the canonical form is kept, equal
reads are equal memories, and what a filled memory reads. -/

namespace Sys2Proof.Machine

variable {w : Nat}

@[simp] theorem Memory.read_nil (a : Nat) : Memory.read ([] : Memory w) a = none := rfl

theorem Memory.read_cons (b : Nat) (v : BitVec w) (m : Memory w) (a : Nat) :
    Memory.read ((b, v) :: m) a = if b = a then some v else Memory.read m a := rfl

/-- A read after a write, at every address. -/
theorem Memory.read_write (m : Memory w) (a b : Nat) (v : BitVec w) :
    Memory.read (Memory.write m a v) b = if a = b then some v else Memory.read m b := by
  induction m with
  | nil => simp [Memory.write, Memory.read]
  | cons p m ih =>
    obtain ⟨c, u⟩ := p
    simp only [Memory.write]
    split
    · simp [Memory.read]
    · split
      · next h => subst h; simp only [Memory.read]; split <;> rfl
      · simp only [Memory.read, ih]
        split <;> split <;> first | rfl | omega

@[simp] theorem Memory.read_write_same (m : Memory w) (a : Nat) (v : BitVec w) :
    Memory.read (Memory.write m a v) a = some v := by simp [Memory.read_write]

theorem Memory.read_write_other (m : Memory w) {a b : Nat} (v : BitVec w) (h : a ≠ b) :
    Memory.read (Memory.write m a v) b = Memory.read m b := by simp [Memory.read_write, h]

theorem Memory.mem_fst_write (m : Memory w) (a b : Nat) (v : BitVec w) :
    b ∈ (Memory.write m a v).map Prod.fst → b = a ∨ b ∈ m.map Prod.fst := by
  induction m with
  | nil => simp [Memory.write]
  | cons p m ih =>
    obtain ⟨c, u⟩ := p
    simp only [Memory.write]
    split
    · simp
    · split
      · next h => subst h; simp only [List.map_cons, List.mem_cons]; tauto
      · simp only [List.map_cons, List.mem_cons]; tauto

/-- A write keeps the canonical form. -/
theorem Memory.write_wf (m : Memory w) (a : Nat) (v : BitVec w) (h : m.wf) : (Memory.write m a v).wf := by
  induction m with
  | nil => simp [Memory.write, Memory.wf]
  | cons p m ih =>
    obtain ⟨c, u⟩ := p
    simp only [Memory.wf, List.map_cons, List.pairwise_cons] at h
    simp only [Memory.write]
    split
    · next hlt =>
      simp only [Memory.wf, List.map_cons, List.pairwise_cons, List.mem_cons]
      exact ⟨fun x hx => hx.elim (fun e => e ▸ hlt) fun hx => hlt.trans (h.1 x hx), h⟩
    · split
      · next _ heq =>
        subst heq
        simpa only [Memory.wf, List.map_cons, List.pairwise_cons] using h
      · next hlt hne =>
        simp only [Memory.wf, List.map_cons, List.pairwise_cons]
        refine ⟨fun x hx => ?_, ih h.2⟩
        rcases Memory.mem_fst_write m a x v hx with rfl | hx
        · omega
        · exact h.1 x hx

/-- In a canonical memory nothing stands below the first address. -/
theorem Memory.read_eq_none_of_lt {m : Memory w} {a : Nat} (h : ∀ x ∈ m.map Prod.fst, a < x) :
    Memory.read m a = none := by
  induction m with
  | nil => rfl
  | cons p m ih =>
    obtain ⟨c, u⟩ := p
    simp only [List.map_cons, List.mem_cons, forall_eq_or_imp] at h
    simp only [Memory.read]
    rw [if_neg (by omega)]
    exact ih h.2

/-- Canonical memories that read alike are equal. -/
theorem Memory.ext_of_read {m n : Memory w} (hm : m.wf) (hn : n.wf)
    (h : ∀ a, Memory.read m a = Memory.read n a) : m = n := by
  induction m generalizing n with
  | nil =>
    cases n with
    | nil => rfl
    | cons p n => obtain ⟨c, u⟩ := p; simpa [Memory.read] using h c
  | cons p m ih =>
    obtain ⟨c, u⟩ := p
    cases n with
    | nil => simpa [Memory.read] using h c
    | cons q n =>
      obtain ⟨d, v⟩ := q
      simp only [Memory.wf, List.map_cons, List.pairwise_cons] at hm hn
      have hcd : c = d := by
        rcases Nat.lt_trichotomy c d with hlt | heq | hlt
        · have := h c
          rw [Memory.read_cons, if_pos rfl, Memory.read_cons, if_neg (by omega),
            Memory.read_eq_none_of_lt fun x hx => hlt.trans (hn.1 x hx)] at this
          exact absurd this (by simp)
        · exact heq
        · have := h d
          rw [Memory.read_cons, if_neg (by omega), Memory.read_cons, if_pos rfl,
            Memory.read_eq_none_of_lt fun x hx => hlt.trans (hm.1 x hx)] at this
          exact absurd this (by simp)
      subst hcd
      have huv : u = v := by simpa [Memory.read] using h c
      subst huv
      congr 1
      refine ih hm.2 hn.2 fun a => ?_
      by_cases hca : c = a
      · subst hca
        rw [Memory.read_eq_none_of_lt hm.1, Memory.read_eq_none_of_lt hn.1]
      · simpa [Memory.read, hca] using h a

theorem Memory.read_map_of_mem (l : List Nat) (f : Nat → BitVec w) (a : Nat) :
    Memory.read (l.map fun i => (i, f i)) a = if a ∈ l then some (f a) else none := by
  induction l with
  | nil => rfl
  | cons b l ih =>
    simp only [List.map_cons, Memory.read, ih, List.mem_cons]
    by_cases hb : b = a
    · simp [hb]
    · have : ¬ a = b := fun h => hb h.symm
      simp [hb, this]

/-- What a filled memory reads. -/
@[simp] theorem Memory.read_fill (n : Nat) (f : Nat → BitVec w) (a : Nat) :
    Memory.read (Memory.fill n f) a = if a < n then some (f a) else none := by
  simp [Memory.fill, Memory.read_map_of_mem]

/-- A filled memory is canonical. -/
theorem Memory.fill_wf (n : Nat) (f : Nat → BitVec w) : (Memory.fill n f).wf := by
  have : (Memory.fill n f).map Prod.fst = List.range n := by
    simp [Memory.fill, Function.comp_def]
  simp only [Memory.wf, this]
  exact List.pairwise_lt_range

theorem blackFrame_wf (c : Config) : (blackFrame c).wf := Memory.fill_wf _ _

theorem builtChain_wf (c : Config) : (builtChain c).wf := Memory.fill_wf _ _

/-- The black frame at every offset (R146). -/
theorem blackFrame_read (c : Config) (o : Nat) :
    (blackFrame c).read o = if o < c.fbSize then some (activeSample c (o % c.R)) else none :=
  Memory.read_fill _ _ _

/-- The built chain at every index (R166). -/
theorem builtChain_read (c : Config) (i : Nat) :
    (builtChain c).read i = if i < numDescriptors then some (chainBuild c i) else none :=
  Memory.read_fill _ _ _

end Sys2Proof.Machine
end

