-- ==== Sys2Proof/Laws/State.lean ====
section
/-! SUPPORT. One lemma per field and named update of the state, each true by rfl, so that no later proof
unfolds a record update. -/

namespace Sys2Proof.Machine

/-! ### The slot of an edge -/

@[simp] theorem EdgeSlot.afterEngine_fresh : EdgeSlot.afterEngine .fresh = .engineDone := rfl
@[simp] theorem EdgeSlot.afterEngine_engineDone : EdgeSlot.afterEngine .engineDone = .engineDone := rfl
@[simp] theorem EdgeSlot.afterEngine_hostDone : EdgeSlot.afterEngine .hostDone = .fresh := rfl
@[simp] theorem EdgeSlot.afterHost_fresh : EdgeSlot.afterHost .fresh = .hostDone := rfl
@[simp] theorem EdgeSlot.afterHost_engineDone : EdgeSlot.afterHost .engineDone = .fresh := rfl
@[simp] theorem EdgeSlot.afterHost_hostDone : EdgeSlot.afterHost .hostDone = .hostDone := rfl

/-! ### dacWrite -/

@[simp] theorem State.dacWrite_cfg (v : Sample) (s : State) : (s.dacWrite v).cfg = s.cfg := rfl
@[simp] theorem State.dacWrite_bound (v : Sample) (s : State) : (s.dacWrite v).bound = s.bound := rfl
@[simp] theorem State.dacWrite_begun (v : Sample) (s : State) : (s.dacWrite v).begun = s.begun := rfl
@[simp] theorem State.dacWrite_run (v : Sample) (s : State) : (s.dacWrite v).run = s.run := rfl
@[simp] theorem State.dacWrite_fault (v : Sample) (s : State) : (s.dacWrite v).fault = s.fault := rfl
@[simp] theorem State.dacWrite_didx (v : Sample) (s : State) : (s.dacWrite v).didx = s.didx := rfl
@[simp] theorem State.dacWrite_bcnt (v : Sample) (s : State) : (s.dacWrite v).bcnt = s.bcnt := rfl
@[simp] theorem State.dacWrite_sptr (v : Sample) (s : State) : (s.dacWrite v).sptr = s.sptr := rfl
@[simp] theorem State.dacWrite_div (v : Sample) (s : State) : (s.dacWrite v).div = s.div := rfl
@[simp] theorem State.dacWrite_dacOut (v : Sample) (s : State) : (s.dacWrite v).dacOut = v := rfl
@[simp] theorem State.dacWrite_fieldLatch (v : Sample) (s : State) : (s.dacWrite v).fieldLatch = s.fieldLatch := rfl
@[simp] theorem State.dacWrite_fb (v : Sample) (s : State) : (s.dacWrite v).fb = s.fb := rfl
@[simp] theorem State.dacWrite_chain (v : Sample) (s : State) : (s.dacWrite v).chain = s.chain := rfl
@[simp] theorem State.dacWrite_clrBusy (v : Sample) (s : State) : (s.dacWrite v).clrBusy = s.clrBusy := rfl
@[simp] theorem State.dacWrite_clrPend (v : Sample) (s : State) : (s.dacWrite v).clrPend = s.clrPend := rfl
@[simp] theorem State.dacWrite_dmaAvail (v : Sample) (s : State) : (s.dacWrite v).dmaAvail = s.dmaAvail := rfl
@[simp] theorem State.dacWrite_memAvail (v : Sample) (s : State) : (s.dacWrite v).memAvail = s.memAvail := rfl
@[simp] theorem State.dacWrite_rspValid (v : Sample) (s : State) : (s.dacWrite v).rspValid = s.rspValid := rfl
@[simp] theorem State.dacWrite_rsp (v : Sample) (s : State) : (s.dacWrite v).rsp = s.rsp := rfl
@[simp] theorem State.dacWrite_dacWr (v : Sample) (s : State) : (s.dacWrite v).dacWr = true := rfl
@[simp] theorem State.dacWrite_pixTick (v : Sample) (s : State) : (s.dacWrite v).pixTick = s.pixTick := rfl
@[simp] theorem State.dacWrite_inputs (v : Sample) (s : State) : (s.dacWrite v).inputs = s.inputs := rfl
@[simp] theorem State.dacWrite_slot (v : Sample) (s : State) : (s.dacWrite v).slot = s.slot := rfl
@[simp] theorem State.dacWrite_trace (v : Sample) (s : State) : (s.dacWrite v).trace = .dac v :: s.trace := rfl
@[simp] theorem State.dacWrite_draws (v : Sample) (s : State) : (s.dacWrite v).draws = s.draws := rfl

/-! ### latchWrite -/

@[simp] theorem State.latchWrite_cfg (v : Byte) (s : State) : (s.latchWrite v).cfg = s.cfg := rfl
@[simp] theorem State.latchWrite_bound (v : Byte) (s : State) : (s.latchWrite v).bound = s.bound := rfl
@[simp] theorem State.latchWrite_begun (v : Byte) (s : State) : (s.latchWrite v).begun = s.begun := rfl
@[simp] theorem State.latchWrite_run (v : Byte) (s : State) : (s.latchWrite v).run = s.run := rfl
@[simp] theorem State.latchWrite_fault (v : Byte) (s : State) : (s.latchWrite v).fault = s.fault := rfl
@[simp] theorem State.latchWrite_didx (v : Byte) (s : State) : (s.latchWrite v).didx = s.didx := rfl
@[simp] theorem State.latchWrite_bcnt (v : Byte) (s : State) : (s.latchWrite v).bcnt = s.bcnt := rfl
@[simp] theorem State.latchWrite_sptr (v : Byte) (s : State) : (s.latchWrite v).sptr = s.sptr := rfl
@[simp] theorem State.latchWrite_div (v : Byte) (s : State) : (s.latchWrite v).div = s.div := rfl
@[simp] theorem State.latchWrite_dacOut (v : Byte) (s : State) : (s.latchWrite v).dacOut = s.dacOut := rfl
@[simp] theorem State.latchWrite_fieldLatch (v : Byte) (s : State) : (s.latchWrite v).fieldLatch = v := rfl
@[simp] theorem State.latchWrite_fb (v : Byte) (s : State) : (s.latchWrite v).fb = s.fb := rfl
@[simp] theorem State.latchWrite_chain (v : Byte) (s : State) : (s.latchWrite v).chain = s.chain := rfl
@[simp] theorem State.latchWrite_clrBusy (v : Byte) (s : State) : (s.latchWrite v).clrBusy = s.clrBusy := rfl
@[simp] theorem State.latchWrite_clrPend (v : Byte) (s : State) : (s.latchWrite v).clrPend = s.clrPend := rfl
@[simp] theorem State.latchWrite_dmaAvail (v : Byte) (s : State) : (s.latchWrite v).dmaAvail = s.dmaAvail := rfl
@[simp] theorem State.latchWrite_memAvail (v : Byte) (s : State) : (s.latchWrite v).memAvail = s.memAvail := rfl
@[simp] theorem State.latchWrite_rspValid (v : Byte) (s : State) : (s.latchWrite v).rspValid = s.rspValid := rfl
@[simp] theorem State.latchWrite_rsp (v : Byte) (s : State) : (s.latchWrite v).rsp = s.rsp := rfl
@[simp] theorem State.latchWrite_dacWr (v : Byte) (s : State) : (s.latchWrite v).dacWr = s.dacWr := rfl
@[simp] theorem State.latchWrite_pixTick (v : Byte) (s : State) : (s.latchWrite v).pixTick = s.pixTick := rfl
@[simp] theorem State.latchWrite_inputs (v : Byte) (s : State) : (s.latchWrite v).inputs = s.inputs := rfl
@[simp] theorem State.latchWrite_slot (v : Byte) (s : State) : (s.latchWrite v).slot = s.slot := rfl
@[simp] theorem State.latchWrite_trace (v : Byte) (s : State) : (s.latchWrite v).trace = s.trace := rfl
@[simp] theorem State.latchWrite_draws (v : Byte) (s : State) : (s.latchWrite v).draws = s.draws := rfl

/-! ### respond -/

@[simp] theorem State.respond_cfg (st d : Byte) (s : State) : (s.respond st d).cfg = s.cfg := rfl
@[simp] theorem State.respond_bound (st d : Byte) (s : State) : (s.respond st d).bound = s.bound := rfl
@[simp] theorem State.respond_begun (st d : Byte) (s : State) : (s.respond st d).begun = s.begun := rfl
@[simp] theorem State.respond_run (st d : Byte) (s : State) : (s.respond st d).run = s.run := rfl
@[simp] theorem State.respond_fault (st d : Byte) (s : State) : (s.respond st d).fault = s.fault := rfl
@[simp] theorem State.respond_didx (st d : Byte) (s : State) : (s.respond st d).didx = s.didx := rfl
@[simp] theorem State.respond_bcnt (st d : Byte) (s : State) : (s.respond st d).bcnt = s.bcnt := rfl
@[simp] theorem State.respond_sptr (st d : Byte) (s : State) : (s.respond st d).sptr = s.sptr := rfl
@[simp] theorem State.respond_div (st d : Byte) (s : State) : (s.respond st d).div = s.div := rfl
@[simp] theorem State.respond_dacOut (st d : Byte) (s : State) : (s.respond st d).dacOut = s.dacOut := rfl
@[simp] theorem State.respond_fieldLatch (st d : Byte) (s : State) : (s.respond st d).fieldLatch = s.fieldLatch := rfl
@[simp] theorem State.respond_fb (st d : Byte) (s : State) : (s.respond st d).fb = s.fb := rfl
@[simp] theorem State.respond_chain (st d : Byte) (s : State) : (s.respond st d).chain = s.chain := rfl
@[simp] theorem State.respond_clrBusy (st d : Byte) (s : State) : (s.respond st d).clrBusy = s.clrBusy := rfl
@[simp] theorem State.respond_clrPend (st d : Byte) (s : State) : (s.respond st d).clrPend = s.clrPend := rfl
@[simp] theorem State.respond_dmaAvail (st d : Byte) (s : State) : (s.respond st d).dmaAvail = s.dmaAvail := rfl
@[simp] theorem State.respond_memAvail (st d : Byte) (s : State) : (s.respond st d).memAvail = s.memAvail := rfl
@[simp] theorem State.respond_rspValid (st d : Byte) (s : State) : (s.respond st d).rspValid = true := rfl
@[simp] theorem State.respond_rsp (st d : Byte) (s : State) : (s.respond st d).rsp = st ++ d := rfl
@[simp] theorem State.respond_dacWr (st d : Byte) (s : State) : (s.respond st d).dacWr = s.dacWr := rfl
@[simp] theorem State.respond_pixTick (st d : Byte) (s : State) : (s.respond st d).pixTick = s.pixTick := rfl
@[simp] theorem State.respond_inputs (st d : Byte) (s : State) : (s.respond st d).inputs = s.inputs := rfl
@[simp] theorem State.respond_slot (st d : Byte) (s : State) : (s.respond st d).slot = s.slot := rfl
@[simp] theorem State.respond_trace (st d : Byte) (s : State) : (s.respond st d).trace = .rsp (st ++ d) :: s.trace := rfl
@[simp] theorem State.respond_draws (st d : Byte) (s : State) : (s.respond st d).draws = s.draws := rfl

/-! ### raise -/

@[simp] theorem State.raise_cfg (e : CmdError) (d : Byte) (s : State) : (s.raise e d).cfg = s.cfg := rfl
@[simp] theorem State.raise_bound (e : CmdError) (d : Byte) (s : State) : (s.raise e d).bound = s.bound := rfl
@[simp] theorem State.raise_begun (e : CmdError) (d : Byte) (s : State) : (s.raise e d).begun = s.begun := rfl
@[simp] theorem State.raise_run (e : CmdError) (d : Byte) (s : State) : (s.raise e d).run = s.run := rfl
@[simp] theorem State.raise_fault (e : CmdError) (d : Byte) (s : State) : (s.raise e d).fault = s.fault := rfl
@[simp] theorem State.raise_didx (e : CmdError) (d : Byte) (s : State) : (s.raise e d).didx = s.didx := rfl
@[simp] theorem State.raise_bcnt (e : CmdError) (d : Byte) (s : State) : (s.raise e d).bcnt = s.bcnt := rfl
@[simp] theorem State.raise_sptr (e : CmdError) (d : Byte) (s : State) : (s.raise e d).sptr = s.sptr := rfl
@[simp] theorem State.raise_div (e : CmdError) (d : Byte) (s : State) : (s.raise e d).div = s.div := rfl
@[simp] theorem State.raise_dacOut (e : CmdError) (d : Byte) (s : State) : (s.raise e d).dacOut = s.dacOut := rfl
@[simp] theorem State.raise_fieldLatch (e : CmdError) (d : Byte) (s : State) : (s.raise e d).fieldLatch = s.fieldLatch := rfl
@[simp] theorem State.raise_fb (e : CmdError) (d : Byte) (s : State) : (s.raise e d).fb = s.fb := rfl
@[simp] theorem State.raise_chain (e : CmdError) (d : Byte) (s : State) : (s.raise e d).chain = s.chain := rfl
@[simp] theorem State.raise_clrBusy (e : CmdError) (d : Byte) (s : State) : (s.raise e d).clrBusy = s.clrBusy := rfl
@[simp] theorem State.raise_clrPend (e : CmdError) (d : Byte) (s : State) : (s.raise e d).clrPend = s.clrPend := rfl
@[simp] theorem State.raise_dmaAvail (e : CmdError) (d : Byte) (s : State) : (s.raise e d).dmaAvail = s.dmaAvail := rfl
@[simp] theorem State.raise_memAvail (e : CmdError) (d : Byte) (s : State) : (s.raise e d).memAvail = s.memAvail := rfl
@[simp] theorem State.raise_rspValid (e : CmdError) (d : Byte) (s : State) : (s.raise e d).rspValid = true := rfl
@[simp] theorem State.raise_rsp (e : CmdError) (d : Byte) (s : State) : (s.raise e d).rsp = errorStatus e ++ d := rfl
@[simp] theorem State.raise_dacWr (e : CmdError) (d : Byte) (s : State) : (s.raise e d).dacWr = s.dacWr := rfl
@[simp] theorem State.raise_pixTick (e : CmdError) (d : Byte) (s : State) : (s.raise e d).pixTick = s.pixTick := rfl
@[simp] theorem State.raise_inputs (e : CmdError) (d : Byte) (s : State) : (s.raise e d).inputs = s.inputs := rfl
@[simp] theorem State.raise_slot (e : CmdError) (d : Byte) (s : State) : (s.raise e d).slot = s.slot := rfl
@[simp] theorem State.raise_trace (e : CmdError) (d : Byte) (s : State) : (s.raise e d).trace = .rsp (errorStatus e ++ d) :: s.trace := rfl
@[simp] theorem State.raise_draws (e : CmdError) (d : Byte) (s : State) : (s.raise e d).draws = s.draws := rfl

/-! ### quiet -/

@[simp] theorem State.quiet_cfg (s : State) : (s.quiet).cfg = s.cfg := rfl
@[simp] theorem State.quiet_bound (s : State) : (s.quiet).bound = s.bound := rfl
@[simp] theorem State.quiet_begun (s : State) : (s.quiet).begun = s.begun := rfl
@[simp] theorem State.quiet_run (s : State) : (s.quiet).run = s.run := rfl
@[simp] theorem State.quiet_fault (s : State) : (s.quiet).fault = s.fault := rfl
@[simp] theorem State.quiet_didx (s : State) : (s.quiet).didx = s.didx := rfl
@[simp] theorem State.quiet_bcnt (s : State) : (s.quiet).bcnt = s.bcnt := rfl
@[simp] theorem State.quiet_sptr (s : State) : (s.quiet).sptr = s.sptr := rfl
@[simp] theorem State.quiet_div (s : State) : (s.quiet).div = s.div := rfl
@[simp] theorem State.quiet_dacOut (s : State) : (s.quiet).dacOut = s.dacOut := rfl
@[simp] theorem State.quiet_fieldLatch (s : State) : (s.quiet).fieldLatch = s.fieldLatch := rfl
@[simp] theorem State.quiet_fb (s : State) : (s.quiet).fb = s.fb := rfl
@[simp] theorem State.quiet_chain (s : State) : (s.quiet).chain = s.chain := rfl
@[simp] theorem State.quiet_clrBusy (s : State) : (s.quiet).clrBusy = s.clrBusy := rfl
@[simp] theorem State.quiet_clrPend (s : State) : (s.quiet).clrPend = s.clrPend := rfl
@[simp] theorem State.quiet_dmaAvail (s : State) : (s.quiet).dmaAvail = s.dmaAvail := rfl
@[simp] theorem State.quiet_memAvail (s : State) : (s.quiet).memAvail = s.memAvail := rfl
@[simp] theorem State.quiet_rspValid (s : State) : (s.quiet).rspValid = false := rfl
@[simp] theorem State.quiet_rsp (s : State) : (s.quiet).rsp = s.rsp := rfl
@[simp] theorem State.quiet_dacWr (s : State) : (s.quiet).dacWr = false := rfl
@[simp] theorem State.quiet_pixTick (s : State) : (s.quiet).pixTick = false := rfl
@[simp] theorem State.quiet_inputs (s : State) : (s.quiet).inputs = s.inputs := rfl
@[simp] theorem State.quiet_slot (s : State) : (s.quiet).slot = s.slot := rfl
@[simp] theorem State.quiet_trace (s : State) : (s.quiet).trace = s.trace := rfl
@[simp] theorem State.quiet_draws (s : State) : (s.quiet).draws = s.draws := rfl

/-! ### engineFault -/

@[simp] theorem State.engineFault_cfg (s : State) : (s.engineFault).cfg = s.cfg := rfl
@[simp] theorem State.engineFault_bound (s : State) : (s.engineFault).bound = s.bound := rfl
@[simp] theorem State.engineFault_begun (s : State) : (s.engineFault).begun = s.begun := rfl
@[simp] theorem State.engineFault_run (s : State) : (s.engineFault).run = false := rfl
@[simp] theorem State.engineFault_fault (s : State) : (s.engineFault).fault = true := rfl
@[simp] theorem State.engineFault_didx (s : State) : (s.engineFault).didx = s.didx := rfl
@[simp] theorem State.engineFault_bcnt (s : State) : (s.engineFault).bcnt = s.bcnt := rfl
@[simp] theorem State.engineFault_sptr (s : State) : (s.engineFault).sptr = s.sptr := rfl
@[simp] theorem State.engineFault_div (s : State) : (s.engineFault).div = s.div := rfl
@[simp] theorem State.engineFault_dacOut (s : State) : (s.engineFault).dacOut = s.dacOut := rfl
@[simp] theorem State.engineFault_fieldLatch (s : State) : (s.engineFault).fieldLatch = s.fieldLatch := rfl
@[simp] theorem State.engineFault_fb (s : State) : (s.engineFault).fb = s.fb := rfl
@[simp] theorem State.engineFault_chain (s : State) : (s.engineFault).chain = s.chain := rfl
@[simp] theorem State.engineFault_clrBusy (s : State) : (s.engineFault).clrBusy = s.clrBusy := rfl
@[simp] theorem State.engineFault_clrPend (s : State) : (s.engineFault).clrPend = s.clrPend := rfl
@[simp] theorem State.engineFault_dmaAvail (s : State) : (s.engineFault).dmaAvail = s.dmaAvail := rfl
@[simp] theorem State.engineFault_memAvail (s : State) : (s.engineFault).memAvail = s.memAvail := rfl
@[simp] theorem State.engineFault_rspValid (s : State) : (s.engineFault).rspValid = s.rspValid := rfl
@[simp] theorem State.engineFault_rsp (s : State) : (s.engineFault).rsp = s.rsp := rfl
@[simp] theorem State.engineFault_dacWr (s : State) : (s.engineFault).dacWr = s.dacWr := rfl
@[simp] theorem State.engineFault_pixTick (s : State) : (s.engineFault).pixTick = s.pixTick := rfl
@[simp] theorem State.engineFault_inputs (s : State) : (s.engineFault).inputs = s.inputs := rfl
@[simp] theorem State.engineFault_slot (s : State) : (s.engineFault).slot = s.slot := rfl
@[simp] theorem State.engineFault_trace (s : State) : (s.engineFault).trace = s.trace := rfl
@[simp] theorem State.engineFault_draws (s : State) : (s.engineFault).draws = s.draws := rfl

/-! ### loadDescriptor -/

@[simp] theorem State.loadDescriptor_cfg (d : Word) (s : State) : (s.loadDescriptor d).cfg = s.cfg := rfl
@[simp] theorem State.loadDescriptor_bound (d : Word) (s : State) : (s.loadDescriptor d).bound = s.bound := rfl
@[simp] theorem State.loadDescriptor_begun (d : Word) (s : State) : (s.loadDescriptor d).begun = s.begun := rfl
@[simp] theorem State.loadDescriptor_run (d : Word) (s : State) : (s.loadDescriptor d).run = s.run := rfl
@[simp] theorem State.loadDescriptor_fault (d : Word) (s : State) : (s.loadDescriptor d).fault = s.fault := rfl
@[simp] theorem State.loadDescriptor_didx (d : Word) (s : State) : (s.loadDescriptor d).didx = s.didx := rfl
@[simp] theorem State.loadDescriptor_bcnt (d : Word) (s : State) : (s.loadDescriptor d).bcnt = dCount d := rfl
@[simp] theorem State.loadDescriptor_sptr (d : Word) (s : State) : (s.loadDescriptor d).sptr = dSrcoff d := rfl
@[simp] theorem State.loadDescriptor_div (d : Word) (s : State) : (s.loadDescriptor d).div = s.div := rfl
@[simp] theorem State.loadDescriptor_dacOut (d : Word) (s : State) : (s.loadDescriptor d).dacOut = s.dacOut := rfl
@[simp] theorem State.loadDescriptor_fieldLatch (d : Word) (s : State) : (s.loadDescriptor d).fieldLatch = s.fieldLatch := rfl
@[simp] theorem State.loadDescriptor_fb (d : Word) (s : State) : (s.loadDescriptor d).fb = s.fb := rfl
@[simp] theorem State.loadDescriptor_chain (d : Word) (s : State) : (s.loadDescriptor d).chain = s.chain := rfl
@[simp] theorem State.loadDescriptor_clrBusy (d : Word) (s : State) : (s.loadDescriptor d).clrBusy = s.clrBusy := rfl
@[simp] theorem State.loadDescriptor_clrPend (d : Word) (s : State) : (s.loadDescriptor d).clrPend = s.clrPend := rfl
@[simp] theorem State.loadDescriptor_dmaAvail (d : Word) (s : State) : (s.loadDescriptor d).dmaAvail = s.dmaAvail := rfl
@[simp] theorem State.loadDescriptor_memAvail (d : Word) (s : State) : (s.loadDescriptor d).memAvail = s.memAvail := rfl
@[simp] theorem State.loadDescriptor_rspValid (d : Word) (s : State) : (s.loadDescriptor d).rspValid = s.rspValid := rfl
@[simp] theorem State.loadDescriptor_rsp (d : Word) (s : State) : (s.loadDescriptor d).rsp = s.rsp := rfl
@[simp] theorem State.loadDescriptor_dacWr (d : Word) (s : State) : (s.loadDescriptor d).dacWr = s.dacWr := rfl
@[simp] theorem State.loadDescriptor_pixTick (d : Word) (s : State) : (s.loadDescriptor d).pixTick = s.pixTick := rfl
@[simp] theorem State.loadDescriptor_inputs (d : Word) (s : State) : (s.loadDescriptor d).inputs = s.inputs := rfl
@[simp] theorem State.loadDescriptor_slot (d : Word) (s : State) : (s.loadDescriptor d).slot = s.slot := rfl
@[simp] theorem State.loadDescriptor_trace (d : Word) (s : State) : (s.loadDescriptor d).trace = s.trace := rfl
@[simp] theorem State.loadDescriptor_draws (d : Word) (s : State) : (s.loadDescriptor d).draws = s.draws := rfl

/-! ### drawn -/

@[simp] theorem State.drawn_cfg (s : State) : (s.drawn).cfg = s.cfg := rfl
@[simp] theorem State.drawn_bound (s : State) : (s.drawn).bound = s.bound := rfl
@[simp] theorem State.drawn_begun (s : State) : (s.drawn).begun = s.begun := rfl
@[simp] theorem State.drawn_run (s : State) : (s.drawn).run = s.run := rfl
@[simp] theorem State.drawn_fault (s : State) : (s.drawn).fault = s.fault := rfl
@[simp] theorem State.drawn_didx (s : State) : (s.drawn).didx = s.didx := rfl
@[simp] theorem State.drawn_bcnt (s : State) : (s.drawn).bcnt = s.bcnt := rfl
@[simp] theorem State.drawn_sptr (s : State) : (s.drawn).sptr = s.sptr := rfl
@[simp] theorem State.drawn_div (s : State) : (s.drawn).div = s.div := rfl
@[simp] theorem State.drawn_dacOut (s : State) : (s.drawn).dacOut = s.dacOut := rfl
@[simp] theorem State.drawn_fieldLatch (s : State) : (s.drawn).fieldLatch = s.fieldLatch := rfl
@[simp] theorem State.drawn_fb (s : State) : (s.drawn).fb = s.fb := rfl
@[simp] theorem State.drawn_chain (s : State) : (s.drawn).chain = s.chain := rfl
@[simp] theorem State.drawn_clrBusy (s : State) : (s.drawn).clrBusy = s.clrBusy := rfl
@[simp] theorem State.drawn_clrPend (s : State) : (s.drawn).clrPend = s.clrPend := rfl
@[simp] theorem State.drawn_dmaAvail (s : State) : (s.drawn).dmaAvail = s.dmaAvail := rfl
@[simp] theorem State.drawn_memAvail (s : State) : (s.drawn).memAvail = s.memAvail := rfl
@[simp] theorem State.drawn_rspValid (s : State) : (s.drawn).rspValid = s.rspValid := rfl
@[simp] theorem State.drawn_rsp (s : State) : (s.drawn).rsp = s.rsp := rfl
@[simp] theorem State.drawn_dacWr (s : State) : (s.drawn).dacWr = s.dacWr := rfl
@[simp] theorem State.drawn_pixTick (s : State) : (s.drawn).pixTick = s.pixTick := rfl
@[simp] theorem State.drawn_inputs (s : State) : (s.drawn).inputs = s.inputs := rfl
@[simp] theorem State.drawn_slot (s : State) : (s.drawn).slot = s.slot := rfl
@[simp] theorem State.drawn_trace (s : State) : (s.drawn).trace = s.trace := rfl
@[simp] theorem State.drawn_draws (s : State) : (s.drawn).draws = s.draws + 1 := rfl

/-! ### clearStart -/

@[simp] theorem State.clearStart_cfg (s : State) : (s.clearStart).cfg = s.cfg := rfl
@[simp] theorem State.clearStart_bound (s : State) : (s.clearStart).bound = s.bound := rfl
@[simp] theorem State.clearStart_begun (s : State) : (s.clearStart).begun = s.begun := rfl
@[simp] theorem State.clearStart_run (s : State) : (s.clearStart).run = s.run := rfl
@[simp] theorem State.clearStart_fault (s : State) : (s.clearStart).fault = s.fault := rfl
@[simp] theorem State.clearStart_didx (s : State) : (s.clearStart).didx = s.didx := rfl
@[simp] theorem State.clearStart_bcnt (s : State) : (s.clearStart).bcnt = s.bcnt := rfl
@[simp] theorem State.clearStart_sptr (s : State) : (s.clearStart).sptr = s.sptr := rfl
@[simp] theorem State.clearStart_div (s : State) : (s.clearStart).div = s.div := rfl
@[simp] theorem State.clearStart_dacOut (s : State) : (s.clearStart).dacOut = s.dacOut := rfl
@[simp] theorem State.clearStart_fieldLatch (s : State) : (s.clearStart).fieldLatch = s.fieldLatch := rfl
@[simp] theorem State.clearStart_fb (s : State) : (s.clearStart).fb = s.fb := rfl
@[simp] theorem State.clearStart_chain (s : State) : (s.clearStart).chain = s.chain := rfl
@[simp] theorem State.clearStart_clrBusy (s : State) : (s.clearStart).clrBusy = true := rfl
@[simp] theorem State.clearStart_clrPend (s : State) : (s.clearStart).clrPend = List.range s.cfg.fbSize := rfl
@[simp] theorem State.clearStart_dmaAvail (s : State) : (s.clearStart).dmaAvail = s.dmaAvail := rfl
@[simp] theorem State.clearStart_memAvail (s : State) : (s.clearStart).memAvail = s.memAvail := rfl
@[simp] theorem State.clearStart_rspValid (s : State) : (s.clearStart).rspValid = s.rspValid := rfl
@[simp] theorem State.clearStart_rsp (s : State) : (s.clearStart).rsp = s.rsp := rfl
@[simp] theorem State.clearStart_dacWr (s : State) : (s.clearStart).dacWr = s.dacWr := rfl
@[simp] theorem State.clearStart_pixTick (s : State) : (s.clearStart).pixTick = s.pixTick := rfl
@[simp] theorem State.clearStart_inputs (s : State) : (s.clearStart).inputs = s.inputs := rfl
@[simp] theorem State.clearStart_slot (s : State) : (s.clearStart).slot = s.slot := rfl
@[simp] theorem State.clearStart_trace (s : State) : (s.clearStart).trace = s.trace := rfl
@[simp] theorem State.clearStart_draws (s : State) : (s.clearStart).draws = s.draws := rfl

/-! ### setBound -/

@[simp] theorem State.setBound_cfg (s : State) : (s.setBound).cfg = s.cfg := rfl
@[simp] theorem State.setBound_bound (s : State) : (s.setBound).bound = true := rfl
@[simp] theorem State.setBound_begun (s : State) : (s.setBound).begun = s.begun := rfl
@[simp] theorem State.setBound_run (s : State) : (s.setBound).run = s.run := rfl
@[simp] theorem State.setBound_fault (s : State) : (s.setBound).fault = s.fault := rfl
@[simp] theorem State.setBound_didx (s : State) : (s.setBound).didx = s.didx := rfl
@[simp] theorem State.setBound_bcnt (s : State) : (s.setBound).bcnt = s.bcnt := rfl
@[simp] theorem State.setBound_sptr (s : State) : (s.setBound).sptr = s.sptr := rfl
@[simp] theorem State.setBound_div (s : State) : (s.setBound).div = s.div := rfl
@[simp] theorem State.setBound_dacOut (s : State) : (s.setBound).dacOut = s.dacOut := rfl
@[simp] theorem State.setBound_fieldLatch (s : State) : (s.setBound).fieldLatch = s.fieldLatch := rfl
@[simp] theorem State.setBound_fb (s : State) : (s.setBound).fb = s.fb := rfl
@[simp] theorem State.setBound_chain (s : State) : (s.setBound).chain = s.chain := rfl
@[simp] theorem State.setBound_clrBusy (s : State) : (s.setBound).clrBusy = s.clrBusy := rfl
@[simp] theorem State.setBound_clrPend (s : State) : (s.setBound).clrPend = s.clrPend := rfl
@[simp] theorem State.setBound_dmaAvail (s : State) : (s.setBound).dmaAvail = s.dmaAvail := rfl
@[simp] theorem State.setBound_memAvail (s : State) : (s.setBound).memAvail = s.memAvail := rfl
@[simp] theorem State.setBound_rspValid (s : State) : (s.setBound).rspValid = s.rspValid := rfl
@[simp] theorem State.setBound_rsp (s : State) : (s.setBound).rsp = s.rsp := rfl
@[simp] theorem State.setBound_dacWr (s : State) : (s.setBound).dacWr = s.dacWr := rfl
@[simp] theorem State.setBound_pixTick (s : State) : (s.setBound).pixTick = s.pixTick := rfl
@[simp] theorem State.setBound_inputs (s : State) : (s.setBound).inputs = s.inputs := rfl
@[simp] theorem State.setBound_slot (s : State) : (s.setBound).slot = s.slot := rfl
@[simp] theorem State.setBound_trace (s : State) : (s.setBound).trace = s.trace := rfl
@[simp] theorem State.setBound_draws (s : State) : (s.setBound).draws = s.draws := rfl

/-! ### stopRun -/

@[simp] theorem State.stopRun_cfg (s : State) : (s.stopRun).cfg = s.cfg := rfl
@[simp] theorem State.stopRun_bound (s : State) : (s.stopRun).bound = s.bound := rfl
@[simp] theorem State.stopRun_begun (s : State) : (s.stopRun).begun = s.begun := rfl
@[simp] theorem State.stopRun_run (s : State) : (s.stopRun).run = false := rfl
@[simp] theorem State.stopRun_fault (s : State) : (s.stopRun).fault = s.fault := rfl
@[simp] theorem State.stopRun_didx (s : State) : (s.stopRun).didx = s.didx := rfl
@[simp] theorem State.stopRun_bcnt (s : State) : (s.stopRun).bcnt = s.bcnt := rfl
@[simp] theorem State.stopRun_sptr (s : State) : (s.stopRun).sptr = s.sptr := rfl
@[simp] theorem State.stopRun_div (s : State) : (s.stopRun).div = s.div := rfl
@[simp] theorem State.stopRun_dacOut (s : State) : (s.stopRun).dacOut = s.dacOut := rfl
@[simp] theorem State.stopRun_fieldLatch (s : State) : (s.stopRun).fieldLatch = s.fieldLatch := rfl
@[simp] theorem State.stopRun_fb (s : State) : (s.stopRun).fb = s.fb := rfl
@[simp] theorem State.stopRun_chain (s : State) : (s.stopRun).chain = s.chain := rfl
@[simp] theorem State.stopRun_clrBusy (s : State) : (s.stopRun).clrBusy = s.clrBusy := rfl
@[simp] theorem State.stopRun_clrPend (s : State) : (s.stopRun).clrPend = s.clrPend := rfl
@[simp] theorem State.stopRun_dmaAvail (s : State) : (s.stopRun).dmaAvail = s.dmaAvail := rfl
@[simp] theorem State.stopRun_memAvail (s : State) : (s.stopRun).memAvail = s.memAvail := rfl
@[simp] theorem State.stopRun_rspValid (s : State) : (s.stopRun).rspValid = s.rspValid := rfl
@[simp] theorem State.stopRun_rsp (s : State) : (s.stopRun).rsp = s.rsp := rfl
@[simp] theorem State.stopRun_dacWr (s : State) : (s.stopRun).dacWr = s.dacWr := rfl
@[simp] theorem State.stopRun_pixTick (s : State) : (s.stopRun).pixTick = s.pixTick := rfl
@[simp] theorem State.stopRun_inputs (s : State) : (s.stopRun).inputs = s.inputs := rfl
@[simp] theorem State.stopRun_slot (s : State) : (s.stopRun).slot = s.slot := rfl
@[simp] theorem State.stopRun_trace (s : State) : (s.stopRun).trace = s.trace := rfl
@[simp] theorem State.stopRun_draws (s : State) : (s.stopRun).draws = s.draws := rfl

/-! ### beginSuccess -/

@[simp] theorem State.beginSuccess_cfg (s : State) : (s.beginSuccess).cfg = s.cfg := rfl
@[simp] theorem State.beginSuccess_bound (s : State) : (s.beginSuccess).bound = s.bound := rfl
@[simp] theorem State.beginSuccess_begun (s : State) : (s.beginSuccess).begun = true := rfl
@[simp] theorem State.beginSuccess_run (s : State) : (s.beginSuccess).run = true := rfl
@[simp] theorem State.beginSuccess_fault (s : State) : (s.beginSuccess).fault = s.fault := rfl
@[simp] theorem State.beginSuccess_didx (s : State) : (s.beginSuccess).didx = 0 := rfl
@[simp] theorem State.beginSuccess_bcnt (s : State) : (s.beginSuccess).bcnt = BitVec.ofNat 16 s.cfg.lenOdd := rfl
@[simp] theorem State.beginSuccess_sptr (s : State) : (s.beginSuccess).sptr = 0 := rfl
@[simp] theorem State.beginSuccess_div (s : State) : (s.beginSuccess).div = 0 := rfl
@[simp] theorem State.beginSuccess_dacOut (s : State) : (s.beginSuccess).dacOut = s.dacOut := rfl
@[simp] theorem State.beginSuccess_fieldLatch (s : State) : (s.beginSuccess).fieldLatch = s.fieldLatch := rfl
@[simp] theorem State.beginSuccess_fb (s : State) : (s.beginSuccess).fb = blackFrame s.cfg := rfl
@[simp] theorem State.beginSuccess_chain (s : State) : (s.beginSuccess).chain = builtChain s.cfg := rfl
@[simp] theorem State.beginSuccess_clrBusy (s : State) : (s.beginSuccess).clrBusy = s.clrBusy := rfl
@[simp] theorem State.beginSuccess_clrPend (s : State) : (s.beginSuccess).clrPend = s.clrPend := rfl
@[simp] theorem State.beginSuccess_dmaAvail (s : State) : (s.beginSuccess).dmaAvail = s.dmaAvail := rfl
@[simp] theorem State.beginSuccess_memAvail (s : State) : (s.beginSuccess).memAvail = s.memAvail := rfl
@[simp] theorem State.beginSuccess_rspValid (s : State) : (s.beginSuccess).rspValid = s.rspValid := rfl
@[simp] theorem State.beginSuccess_rsp (s : State) : (s.beginSuccess).rsp = s.rsp := rfl
@[simp] theorem State.beginSuccess_dacWr (s : State) : (s.beginSuccess).dacWr = s.dacWr := rfl
@[simp] theorem State.beginSuccess_pixTick (s : State) : (s.beginSuccess).pixTick = s.pixTick := rfl
@[simp] theorem State.beginSuccess_inputs (s : State) : (s.beginSuccess).inputs = s.inputs := rfl
@[simp] theorem State.beginSuccess_slot (s : State) : (s.beginSuccess).slot = .fresh := rfl
@[simp] theorem State.beginSuccess_trace (s : State) : (s.beginSuccess).trace = s.trace := rfl
@[simp] theorem State.beginSuccess_draws (s : State) : (s.beginSuccess).draws = s.draws := rfl

/-! ### sample -/

@[simp] theorem State.sample_cfg (a b : Bool) (s : State) : (s.sample a b).cfg = s.cfg := rfl
@[simp] theorem State.sample_bound (a b : Bool) (s : State) : (s.sample a b).bound = s.bound := rfl
@[simp] theorem State.sample_begun (a b : Bool) (s : State) : (s.sample a b).begun = s.begun := rfl
@[simp] theorem State.sample_run (a b : Bool) (s : State) : (s.sample a b).run = s.run := rfl
@[simp] theorem State.sample_fault (a b : Bool) (s : State) : (s.sample a b).fault = s.fault := rfl
@[simp] theorem State.sample_didx (a b : Bool) (s : State) : (s.sample a b).didx = s.didx := rfl
@[simp] theorem State.sample_bcnt (a b : Bool) (s : State) : (s.sample a b).bcnt = s.bcnt := rfl
@[simp] theorem State.sample_sptr (a b : Bool) (s : State) : (s.sample a b).sptr = s.sptr := rfl
@[simp] theorem State.sample_div (a b : Bool) (s : State) : (s.sample a b).div = s.div := rfl
@[simp] theorem State.sample_dacOut (a b : Bool) (s : State) : (s.sample a b).dacOut = s.dacOut := rfl
@[simp] theorem State.sample_fieldLatch (a b : Bool) (s : State) : (s.sample a b).fieldLatch = s.fieldLatch := rfl
@[simp] theorem State.sample_fb (a b : Bool) (s : State) : (s.sample a b).fb = s.fb := rfl
@[simp] theorem State.sample_chain (a b : Bool) (s : State) : (s.sample a b).chain = s.chain := rfl
@[simp] theorem State.sample_clrBusy (a b : Bool) (s : State) : (s.sample a b).clrBusy = s.clrBusy := rfl
@[simp] theorem State.sample_clrPend (a b : Bool) (s : State) : (s.sample a b).clrPend = s.clrPend := rfl
@[simp] theorem State.sample_dmaAvail (a b : Bool) (s : State) : (s.sample a b).dmaAvail = a := rfl
@[simp] theorem State.sample_memAvail (a b : Bool) (s : State) : (s.sample a b).memAvail = b := rfl
@[simp] theorem State.sample_rspValid (a b : Bool) (s : State) : (s.sample a b).rspValid = s.rspValid := rfl
@[simp] theorem State.sample_rsp (a b : Bool) (s : State) : (s.sample a b).rsp = s.rsp := rfl
@[simp] theorem State.sample_dacWr (a b : Bool) (s : State) : (s.sample a b).dacWr = s.dacWr := rfl
@[simp] theorem State.sample_pixTick (a b : Bool) (s : State) : (s.sample a b).pixTick = s.pixTick := rfl
@[simp] theorem State.sample_inputs (a b : Bool) (s : State) : (s.sample a b).inputs = s.inputs := rfl
@[simp] theorem State.sample_slot (a b : Bool) (s : State) : (s.sample a b).slot = s.slot := rfl
@[simp] theorem State.sample_trace (a b : Bool) (s : State) : (s.sample a b).trace = s.trace := rfl
@[simp] theorem State.sample_draws (a b : Bool) (s : State) : (s.sample a b).draws = s.draws := rfl

/-! ### quietIf -/

@[simp] theorem State.quietIf_cfg (b : Bool) (s : State) : (s.quietIf b).cfg = s.cfg := rfl
@[simp] theorem State.quietIf_bound (b : Bool) (s : State) : (s.quietIf b).bound = s.bound := rfl
@[simp] theorem State.quietIf_begun (b : Bool) (s : State) : (s.quietIf b).begun = s.begun := rfl
@[simp] theorem State.quietIf_run (b : Bool) (s : State) : (s.quietIf b).run = s.run := rfl
@[simp] theorem State.quietIf_fault (b : Bool) (s : State) : (s.quietIf b).fault = s.fault := rfl
@[simp] theorem State.quietIf_didx (b : Bool) (s : State) : (s.quietIf b).didx = s.didx := rfl
@[simp] theorem State.quietIf_bcnt (b : Bool) (s : State) : (s.quietIf b).bcnt = s.bcnt := rfl
@[simp] theorem State.quietIf_sptr (b : Bool) (s : State) : (s.quietIf b).sptr = s.sptr := rfl
@[simp] theorem State.quietIf_div (b : Bool) (s : State) : (s.quietIf b).div = s.div := rfl
@[simp] theorem State.quietIf_dacOut (b : Bool) (s : State) : (s.quietIf b).dacOut = s.dacOut := rfl
@[simp] theorem State.quietIf_fieldLatch (b : Bool) (s : State) : (s.quietIf b).fieldLatch = s.fieldLatch := rfl
@[simp] theorem State.quietIf_fb (b : Bool) (s : State) : (s.quietIf b).fb = s.fb := rfl
@[simp] theorem State.quietIf_chain (b : Bool) (s : State) : (s.quietIf b).chain = s.chain := rfl
@[simp] theorem State.quietIf_clrBusy (b : Bool) (s : State) : (s.quietIf b).clrBusy = s.clrBusy := rfl
@[simp] theorem State.quietIf_clrPend (b : Bool) (s : State) : (s.quietIf b).clrPend = s.clrPend := rfl
@[simp] theorem State.quietIf_dmaAvail (b : Bool) (s : State) : (s.quietIf b).dmaAvail = s.dmaAvail := rfl
@[simp] theorem State.quietIf_memAvail (b : Bool) (s : State) : (s.quietIf b).memAvail = s.memAvail := rfl
@[simp] theorem State.quietIf_rspValid (b : Bool) (s : State) : (s.quietIf b).rspValid = (!b && s.rspValid) := rfl
@[simp] theorem State.quietIf_rsp (b : Bool) (s : State) : (s.quietIf b).rsp = s.rsp := rfl
@[simp] theorem State.quietIf_dacWr (b : Bool) (s : State) : (s.quietIf b).dacWr = (!b && s.dacWr) := rfl
@[simp] theorem State.quietIf_pixTick (b : Bool) (s : State) : (s.quietIf b).pixTick = (!b && s.pixTick) := rfl
@[simp] theorem State.quietIf_inputs (b : Bool) (s : State) : (s.quietIf b).inputs = s.inputs := rfl
@[simp] theorem State.quietIf_slot (b : Bool) (s : State) : (s.quietIf b).slot = s.slot := rfl
@[simp] theorem State.quietIf_trace (b : Bool) (s : State) : (s.quietIf b).trace = s.trace := rfl
@[simp] theorem State.quietIf_draws (b : Bool) (s : State) : (s.quietIf b).draws = s.draws := rfl

/-! ### engineTurn -/

@[simp] theorem State.engineTurn_cfg (s : State) : (s.engineTurn).cfg = s.cfg := rfl
@[simp] theorem State.engineTurn_bound (s : State) : (s.engineTurn).bound = s.bound := rfl
@[simp] theorem State.engineTurn_begun (s : State) : (s.engineTurn).begun = s.begun := rfl
@[simp] theorem State.engineTurn_run (s : State) : (s.engineTurn).run = s.run := rfl
@[simp] theorem State.engineTurn_fault (s : State) : (s.engineTurn).fault = s.fault := rfl
@[simp] theorem State.engineTurn_didx (s : State) : (s.engineTurn).didx = s.didx := rfl
@[simp] theorem State.engineTurn_bcnt (s : State) : (s.engineTurn).bcnt = s.bcnt := rfl
@[simp] theorem State.engineTurn_sptr (s : State) : (s.engineTurn).sptr = s.sptr := rfl
@[simp] theorem State.engineTurn_div (s : State) : (s.engineTurn).div = s.div := rfl
@[simp] theorem State.engineTurn_dacOut (s : State) : (s.engineTurn).dacOut = s.dacOut := rfl
@[simp] theorem State.engineTurn_fieldLatch (s : State) : (s.engineTurn).fieldLatch = s.fieldLatch := rfl
@[simp] theorem State.engineTurn_fb (s : State) : (s.engineTurn).fb = s.fb := rfl
@[simp] theorem State.engineTurn_chain (s : State) : (s.engineTurn).chain = s.chain := rfl
@[simp] theorem State.engineTurn_clrBusy (s : State) : (s.engineTurn).clrBusy = s.clrBusy := rfl
@[simp] theorem State.engineTurn_clrPend (s : State) : (s.engineTurn).clrPend = s.clrPend := rfl
@[simp] theorem State.engineTurn_dmaAvail (s : State) : (s.engineTurn).dmaAvail = s.dmaAvail := rfl
@[simp] theorem State.engineTurn_memAvail (s : State) : (s.engineTurn).memAvail = s.memAvail := rfl
@[simp] theorem State.engineTurn_rspValid (s : State) : (s.engineTurn).rspValid = (!(decide (s.slot ≠ .hostDone)) && s.rspValid) := rfl
@[simp] theorem State.engineTurn_rsp (s : State) : (s.engineTurn).rsp = s.rsp := rfl
@[simp] theorem State.engineTurn_dacWr (s : State) : (s.engineTurn).dacWr = (!(decide (s.slot ≠ .hostDone)) && s.dacWr) := rfl
@[simp] theorem State.engineTurn_pixTick (s : State) : (s.engineTurn).pixTick = (!(decide (s.slot ≠ .hostDone)) && s.pixTick) := rfl
@[simp] theorem State.engineTurn_inputs (s : State) : (s.engineTurn).inputs = s.inputs := rfl
@[simp] theorem State.engineTurn_slot (s : State) : (s.engineTurn).slot = s.slot.afterEngine := rfl
@[simp] theorem State.engineTurn_trace (s : State) : (s.engineTurn).trace = s.trace := rfl
@[simp] theorem State.engineTurn_draws (s : State) : (s.engineTurn).draws = s.draws := rfl

/-! ### hostTurn -/

@[simp] theorem State.hostTurn_cfg (s : State) : (s.hostTurn).cfg = s.cfg := rfl
@[simp] theorem State.hostTurn_bound (s : State) : (s.hostTurn).bound = s.bound := rfl
@[simp] theorem State.hostTurn_begun (s : State) : (s.hostTurn).begun = s.begun := rfl
@[simp] theorem State.hostTurn_run (s : State) : (s.hostTurn).run = s.run := rfl
@[simp] theorem State.hostTurn_fault (s : State) : (s.hostTurn).fault = s.fault := rfl
@[simp] theorem State.hostTurn_didx (s : State) : (s.hostTurn).didx = s.didx := rfl
@[simp] theorem State.hostTurn_bcnt (s : State) : (s.hostTurn).bcnt = s.bcnt := rfl
@[simp] theorem State.hostTurn_sptr (s : State) : (s.hostTurn).sptr = s.sptr := rfl
@[simp] theorem State.hostTurn_div (s : State) : (s.hostTurn).div = s.div := rfl
@[simp] theorem State.hostTurn_dacOut (s : State) : (s.hostTurn).dacOut = s.dacOut := rfl
@[simp] theorem State.hostTurn_fieldLatch (s : State) : (s.hostTurn).fieldLatch = s.fieldLatch := rfl
@[simp] theorem State.hostTurn_fb (s : State) : (s.hostTurn).fb = s.fb := rfl
@[simp] theorem State.hostTurn_chain (s : State) : (s.hostTurn).chain = s.chain := rfl
@[simp] theorem State.hostTurn_clrBusy (s : State) : (s.hostTurn).clrBusy = s.clrBusy := rfl
@[simp] theorem State.hostTurn_clrPend (s : State) : (s.hostTurn).clrPend = s.clrPend := rfl
@[simp] theorem State.hostTurn_dmaAvail (s : State) : (s.hostTurn).dmaAvail = s.dmaAvail := rfl
@[simp] theorem State.hostTurn_memAvail (s : State) : (s.hostTurn).memAvail = s.memAvail := rfl
@[simp] theorem State.hostTurn_rspValid (s : State) : (s.hostTurn).rspValid = (!(!s.clrBusy && decide (s.slot ≠ .engineDone)) && s.rspValid) := rfl
@[simp] theorem State.hostTurn_rsp (s : State) : (s.hostTurn).rsp = s.rsp := rfl
@[simp] theorem State.hostTurn_dacWr (s : State) : (s.hostTurn).dacWr = (!(!s.clrBusy && decide (s.slot ≠ .engineDone)) && s.dacWr) := rfl
@[simp] theorem State.hostTurn_pixTick (s : State) : (s.hostTurn).pixTick = (!(!s.clrBusy && decide (s.slot ≠ .engineDone)) && s.pixTick) := rfl
@[simp] theorem State.hostTurn_inputs (s : State) : (s.hostTurn).inputs = s.inputs := rfl
@[simp] theorem State.hostTurn_slot (s : State) : (s.hostTurn).slot = if s.clrBusy then s.slot else s.slot.afterHost := rfl
@[simp] theorem State.hostTurn_trace (s : State) : (s.hostTurn).trace = s.trace := rfl
@[simp] theorem State.hostTurn_draws (s : State) : (s.hostTurn).draws = s.draws := rfl

/-! ### storeTurn -/

@[simp] theorem State.storeTurn_cfg (s : State) : (s.storeTurn).cfg = s.cfg := rfl
@[simp] theorem State.storeTurn_bound (s : State) : (s.storeTurn).bound = s.bound := rfl
@[simp] theorem State.storeTurn_begun (s : State) : (s.storeTurn).begun = s.begun := rfl
@[simp] theorem State.storeTurn_run (s : State) : (s.storeTurn).run = s.run := rfl
@[simp] theorem State.storeTurn_fault (s : State) : (s.storeTurn).fault = s.fault := rfl
@[simp] theorem State.storeTurn_didx (s : State) : (s.storeTurn).didx = s.didx := rfl
@[simp] theorem State.storeTurn_bcnt (s : State) : (s.storeTurn).bcnt = s.bcnt := rfl
@[simp] theorem State.storeTurn_sptr (s : State) : (s.storeTurn).sptr = s.sptr := rfl
@[simp] theorem State.storeTurn_div (s : State) : (s.storeTurn).div = s.div := rfl
@[simp] theorem State.storeTurn_dacOut (s : State) : (s.storeTurn).dacOut = s.dacOut := rfl
@[simp] theorem State.storeTurn_fieldLatch (s : State) : (s.storeTurn).fieldLatch = s.fieldLatch := rfl
@[simp] theorem State.storeTurn_fb (s : State) : (s.storeTurn).fb = s.fb := rfl
@[simp] theorem State.storeTurn_chain (s : State) : (s.storeTurn).chain = s.chain := rfl
@[simp] theorem State.storeTurn_clrBusy (s : State) : (s.storeTurn).clrBusy = s.clrBusy := rfl
@[simp] theorem State.storeTurn_clrPend (s : State) : (s.storeTurn).clrPend = s.clrPend := rfl
@[simp] theorem State.storeTurn_dmaAvail (s : State) : (s.storeTurn).dmaAvail = s.dmaAvail := rfl
@[simp] theorem State.storeTurn_memAvail (s : State) : (s.storeTurn).memAvail = s.memAvail := rfl
@[simp] theorem State.storeTurn_rspValid (s : State) : (s.storeTurn).rspValid = (!(s.clrBusy && decide (s.slot = .fresh)) && s.rspValid) := rfl
@[simp] theorem State.storeTurn_rsp (s : State) : (s.storeTurn).rsp = s.rsp := rfl
@[simp] theorem State.storeTurn_dacWr (s : State) : (s.storeTurn).dacWr = (!(s.clrBusy && decide (s.slot = .fresh)) && s.dacWr) := rfl
@[simp] theorem State.storeTurn_pixTick (s : State) : (s.storeTurn).pixTick = (!(s.clrBusy && decide (s.slot = .fresh)) && s.pixTick) := rfl
@[simp] theorem State.storeTurn_inputs (s : State) : (s.storeTurn).inputs = s.inputs := rfl
@[simp] theorem State.storeTurn_slot (s : State) : (s.storeTurn).slot = if s.clrBusy && decide (s.slot = .fresh) then .hostDone else s.slot := rfl
@[simp] theorem State.storeTurn_trace (s : State) : (s.storeTurn).trace = s.trace := rfl
@[simp] theorem State.storeTurn_draws (s : State) : (s.storeTurn).draws = s.draws := rfl

/-! ### tickStart -/

@[simp] theorem State.tickStart_cfg (s : State) : (s.tickStart).cfg = s.cfg := rfl
@[simp] theorem State.tickStart_bound (s : State) : (s.tickStart).bound = s.bound := rfl
@[simp] theorem State.tickStart_begun (s : State) : (s.tickStart).begun = s.begun := rfl
@[simp] theorem State.tickStart_run (s : State) : (s.tickStart).run = s.run := rfl
@[simp] theorem State.tickStart_fault (s : State) : (s.tickStart).fault = s.fault := rfl
@[simp] theorem State.tickStart_didx (s : State) : (s.tickStart).didx = s.didx := rfl
@[simp] theorem State.tickStart_bcnt (s : State) : (s.tickStart).bcnt = s.bcnt := rfl
@[simp] theorem State.tickStart_sptr (s : State) : (s.tickStart).sptr = s.sptr := rfl
@[simp] theorem State.tickStart_div (s : State) : (s.tickStart).div = 0 := rfl
@[simp] theorem State.tickStart_dacOut (s : State) : (s.tickStart).dacOut = s.dacOut := rfl
@[simp] theorem State.tickStart_fieldLatch (s : State) : (s.tickStart).fieldLatch = s.fieldLatch := rfl
@[simp] theorem State.tickStart_fb (s : State) : (s.tickStart).fb = s.fb := rfl
@[simp] theorem State.tickStart_chain (s : State) : (s.tickStart).chain = s.chain := rfl
@[simp] theorem State.tickStart_clrBusy (s : State) : (s.tickStart).clrBusy = s.clrBusy := rfl
@[simp] theorem State.tickStart_clrPend (s : State) : (s.tickStart).clrPend = s.clrPend := rfl
@[simp] theorem State.tickStart_dmaAvail (s : State) : (s.tickStart).dmaAvail = s.dmaAvail := rfl
@[simp] theorem State.tickStart_memAvail (s : State) : (s.tickStart).memAvail = s.memAvail := rfl
@[simp] theorem State.tickStart_rspValid (s : State) : (s.tickStart).rspValid = s.rspValid := rfl
@[simp] theorem State.tickStart_rsp (s : State) : (s.tickStart).rsp = s.rsp := rfl
@[simp] theorem State.tickStart_dacWr (s : State) : (s.tickStart).dacWr = s.dacWr := rfl
@[simp] theorem State.tickStart_pixTick (s : State) : (s.tickStart).pixTick = true := rfl
@[simp] theorem State.tickStart_inputs (s : State) : (s.tickStart).inputs = s.inputs := rfl
@[simp] theorem State.tickStart_slot (s : State) : (s.tickStart).slot = s.slot := rfl
@[simp] theorem State.tickStart_trace (s : State) : (s.tickStart).trace = .tick :: s.trace := rfl
@[simp] theorem State.tickStart_draws (s : State) : (s.tickStart).draws = s.draws := rfl

/-! ### countEdge -/

@[simp] theorem State.countEdge_cfg (s : State) : (s.countEdge).cfg = s.cfg := rfl
@[simp] theorem State.countEdge_bound (s : State) : (s.countEdge).bound = s.bound := rfl
@[simp] theorem State.countEdge_begun (s : State) : (s.countEdge).begun = s.begun := rfl
@[simp] theorem State.countEdge_run (s : State) : (s.countEdge).run = s.run := rfl
@[simp] theorem State.countEdge_fault (s : State) : (s.countEdge).fault = s.fault := rfl
@[simp] theorem State.countEdge_didx (s : State) : (s.countEdge).didx = s.didx := rfl
@[simp] theorem State.countEdge_bcnt (s : State) : (s.countEdge).bcnt = s.bcnt := rfl
@[simp] theorem State.countEdge_sptr (s : State) : (s.countEdge).sptr = s.sptr := rfl
@[simp] theorem State.countEdge_div (s : State) : (s.countEdge).div = s.div + 1 := rfl
@[simp] theorem State.countEdge_dacOut (s : State) : (s.countEdge).dacOut = s.dacOut := rfl
@[simp] theorem State.countEdge_fieldLatch (s : State) : (s.countEdge).fieldLatch = s.fieldLatch := rfl
@[simp] theorem State.countEdge_fb (s : State) : (s.countEdge).fb = s.fb := rfl
@[simp] theorem State.countEdge_chain (s : State) : (s.countEdge).chain = s.chain := rfl
@[simp] theorem State.countEdge_clrBusy (s : State) : (s.countEdge).clrBusy = s.clrBusy := rfl
@[simp] theorem State.countEdge_clrPend (s : State) : (s.countEdge).clrPend = s.clrPend := rfl
@[simp] theorem State.countEdge_dmaAvail (s : State) : (s.countEdge).dmaAvail = s.dmaAvail := rfl
@[simp] theorem State.countEdge_memAvail (s : State) : (s.countEdge).memAvail = s.memAvail := rfl
@[simp] theorem State.countEdge_rspValid (s : State) : (s.countEdge).rspValid = s.rspValid := rfl
@[simp] theorem State.countEdge_rsp (s : State) : (s.countEdge).rsp = s.rsp := rfl
@[simp] theorem State.countEdge_dacWr (s : State) : (s.countEdge).dacWr = s.dacWr := rfl
@[simp] theorem State.countEdge_pixTick (s : State) : (s.countEdge).pixTick = s.pixTick := rfl
@[simp] theorem State.countEdge_inputs (s : State) : (s.countEdge).inputs = s.inputs := rfl
@[simp] theorem State.countEdge_slot (s : State) : (s.countEdge).slot = s.slot := rfl
@[simp] theorem State.countEdge_trace (s : State) : (s.countEdge).trace = s.trace := rfl
@[simp] theorem State.countEdge_draws (s : State) : (s.countEdge).draws = s.draws := rfl

/-! ### resetEdge -/

@[simp] theorem State.resetEdge_cfg (v : Sample) (s : State) : (s.resetEdge v).cfg = s.cfg := rfl
@[simp] theorem State.resetEdge_bound (v : Sample) (s : State) : (s.resetEdge v).bound = false := rfl
@[simp] theorem State.resetEdge_begun (v : Sample) (s : State) : (s.resetEdge v).begun = false := rfl
@[simp] theorem State.resetEdge_run (v : Sample) (s : State) : (s.resetEdge v).run = false := rfl
@[simp] theorem State.resetEdge_fault (v : Sample) (s : State) : (s.resetEdge v).fault = false := rfl
@[simp] theorem State.resetEdge_didx (v : Sample) (s : State) : (s.resetEdge v).didx = 0 := rfl
@[simp] theorem State.resetEdge_bcnt (v : Sample) (s : State) : (s.resetEdge v).bcnt = 0 := rfl
@[simp] theorem State.resetEdge_sptr (v : Sample) (s : State) : (s.resetEdge v).sptr = 0 := rfl
@[simp] theorem State.resetEdge_div (v : Sample) (s : State) : (s.resetEdge v).div = 0 := rfl
@[simp] theorem State.resetEdge_dacOut (v : Sample) (s : State) : (s.resetEdge v).dacOut = v := rfl
@[simp] theorem State.resetEdge_fieldLatch (v : Sample) (s : State) : (s.resetEdge v).fieldLatch = 0 := rfl
@[simp] theorem State.resetEdge_fb (v : Sample) (s : State) : (s.resetEdge v).fb = [] := rfl
@[simp] theorem State.resetEdge_chain (v : Sample) (s : State) : (s.resetEdge v).chain = [] := rfl
@[simp] theorem State.resetEdge_clrBusy (v : Sample) (s : State) : (s.resetEdge v).clrBusy = false := rfl
@[simp] theorem State.resetEdge_clrPend (v : Sample) (s : State) : (s.resetEdge v).clrPend = [] := rfl
@[simp] theorem State.resetEdge_dmaAvail (v : Sample) (s : State) : (s.resetEdge v).dmaAvail = false := rfl
@[simp] theorem State.resetEdge_memAvail (v : Sample) (s : State) : (s.resetEdge v).memAvail = false := rfl
@[simp] theorem State.resetEdge_rspValid (v : Sample) (s : State) : (s.resetEdge v).rspValid = false := rfl
@[simp] theorem State.resetEdge_rsp (v : Sample) (s : State) : (s.resetEdge v).rsp = 0 := rfl
@[simp] theorem State.resetEdge_dacWr (v : Sample) (s : State) : (s.resetEdge v).dacWr = false := rfl
@[simp] theorem State.resetEdge_pixTick (v : Sample) (s : State) : (s.resetEdge v).pixTick = false := rfl
@[simp] theorem State.resetEdge_inputs (v : Sample) (s : State) : (s.resetEdge v).inputs = s.inputs := rfl
@[simp] theorem State.resetEdge_slot (v : Sample) (s : State) : (s.resetEdge v).slot = .fresh := rfl
@[simp] theorem State.resetEdge_trace (v : Sample) (s : State) : (s.resetEdge v).trace = s.trace := rfl
@[simp] theorem State.resetEdge_draws (v : Sample) (s : State) : (s.resetEdge v).draws = s.draws := rfl

/-! ### resetWith -/

@[simp] theorem State.resetWith_cfg (c : Config) (v : Sample) : (State.resetWith c v).cfg = c := rfl
@[simp] theorem State.resetWith_bound (c : Config) (v : Sample) : (State.resetWith c v).bound = false := rfl
@[simp] theorem State.resetWith_begun (c : Config) (v : Sample) : (State.resetWith c v).begun = false := rfl
@[simp] theorem State.resetWith_run (c : Config) (v : Sample) : (State.resetWith c v).run = false := rfl
@[simp] theorem State.resetWith_fault (c : Config) (v : Sample) : (State.resetWith c v).fault = false := rfl
@[simp] theorem State.resetWith_didx (c : Config) (v : Sample) : (State.resetWith c v).didx = 0 := rfl
@[simp] theorem State.resetWith_bcnt (c : Config) (v : Sample) : (State.resetWith c v).bcnt = 0 := rfl
@[simp] theorem State.resetWith_sptr (c : Config) (v : Sample) : (State.resetWith c v).sptr = 0 := rfl
@[simp] theorem State.resetWith_div (c : Config) (v : Sample) : (State.resetWith c v).div = 0 := rfl
@[simp] theorem State.resetWith_dacOut (c : Config) (v : Sample) : (State.resetWith c v).dacOut = v := rfl
@[simp] theorem State.resetWith_fieldLatch (c : Config) (v : Sample) : (State.resetWith c v).fieldLatch = 0 := rfl
@[simp] theorem State.resetWith_fb (c : Config) (v : Sample) : (State.resetWith c v).fb = [] := rfl
@[simp] theorem State.resetWith_chain (c : Config) (v : Sample) : (State.resetWith c v).chain = [] := rfl
@[simp] theorem State.resetWith_clrBusy (c : Config) (v : Sample) : (State.resetWith c v).clrBusy = false := rfl
@[simp] theorem State.resetWith_clrPend (c : Config) (v : Sample) : (State.resetWith c v).clrPend = [] := rfl
@[simp] theorem State.resetWith_dmaAvail (c : Config) (v : Sample) : (State.resetWith c v).dmaAvail = false := rfl
@[simp] theorem State.resetWith_memAvail (c : Config) (v : Sample) : (State.resetWith c v).memAvail = false := rfl
@[simp] theorem State.resetWith_rspValid (c : Config) (v : Sample) : (State.resetWith c v).rspValid = false := rfl
@[simp] theorem State.resetWith_rsp (c : Config) (v : Sample) : (State.resetWith c v).rsp = 0 := rfl
@[simp] theorem State.resetWith_dacWr (c : Config) (v : Sample) : (State.resetWith c v).dacWr = false := rfl
@[simp] theorem State.resetWith_pixTick (c : Config) (v : Sample) : (State.resetWith c v).pixTick = false := rfl
@[simp] theorem State.resetWith_inputs (c : Config) (v : Sample) : (State.resetWith c v).inputs = [] := rfl
@[simp] theorem State.resetWith_slot (c : Config) (v : Sample) : (State.resetWith c v).slot = .fresh := rfl
@[simp] theorem State.resetWith_trace (c : Config) (v : Sample) : (State.resetWith c v).trace = [] := rfl
@[simp] theorem State.resetWith_draws (c : Config) (v : Sample) : (State.resetWith c v).draws = 0 := rfl

end Sys2Proof.Machine
end

