-- ==== Sys2Proof/Laws/Ops.lean ====
section
/-! SUPPORT. What each shared operation can do, said once: the fields it leaves alone and its cases. -/

namespace Sys2Proof.Machine

/-! ### advance -/

@[simp] theorem State.advance_cfg (t : Reg) (s : State) : (s.advance t).cfg = s.cfg := by
  unfold State.advance; split <;> rfl
@[simp] theorem State.advance_bound (t : Reg) (s : State) : (s.advance t).bound = s.bound := by
  unfold State.advance; split <;> rfl
@[simp] theorem State.advance_begun (t : Reg) (s : State) : (s.advance t).begun = s.begun := by
  unfold State.advance; split <;> rfl
@[simp] theorem State.advance_run (t : Reg) (s : State) : (s.advance t).run = s.run := by
  unfold State.advance; split <;> rfl
@[simp] theorem State.advance_fault (t : Reg) (s : State) : (s.advance t).fault = s.fault := by
  unfold State.advance; split <;> rfl
@[simp] theorem State.advance_didx (t : Reg) (s : State) : (s.advance t).didx = t := by
  unfold State.advance; split <;> rfl
@[simp] theorem State.advance_div (t : Reg) (s : State) : (s.advance t).div = s.div := by
  unfold State.advance; split <;> rfl
@[simp] theorem State.advance_dacOut (t : Reg) (s : State) : (s.advance t).dacOut = s.dacOut := by
  unfold State.advance; split <;> rfl
@[simp] theorem State.advance_fieldLatch (t : Reg) (s : State) : (s.advance t).fieldLatch = s.fieldLatch := by
  unfold State.advance; split <;> rfl
@[simp] theorem State.advance_fb (t : Reg) (s : State) : (s.advance t).fb = s.fb := by
  unfold State.advance; split <;> rfl
@[simp] theorem State.advance_chain (t : Reg) (s : State) : (s.advance t).chain = s.chain := by
  unfold State.advance; split <;> rfl
@[simp] theorem State.advance_clrBusy (t : Reg) (s : State) : (s.advance t).clrBusy = s.clrBusy := by
  unfold State.advance; split <;> rfl
@[simp] theorem State.advance_clrPend (t : Reg) (s : State) : (s.advance t).clrPend = s.clrPend := by
  unfold State.advance; split <;> rfl
@[simp] theorem State.advance_dmaAvail (t : Reg) (s : State) : (s.advance t).dmaAvail = s.dmaAvail := by
  unfold State.advance; split <;> rfl
@[simp] theorem State.advance_memAvail (t : Reg) (s : State) : (s.advance t).memAvail = s.memAvail := by
  unfold State.advance; split <;> rfl
@[simp] theorem State.advance_rspValid (t : Reg) (s : State) : (s.advance t).rspValid = s.rspValid := by
  unfold State.advance; split <;> rfl
@[simp] theorem State.advance_rsp (t : Reg) (s : State) : (s.advance t).rsp = s.rsp := by
  unfold State.advance; split <;> rfl
@[simp] theorem State.advance_dacWr (t : Reg) (s : State) : (s.advance t).dacWr = s.dacWr := by
  unfold State.advance; split <;> rfl
@[simp] theorem State.advance_pixTick (t : Reg) (s : State) : (s.advance t).pixTick = s.pixTick := by
  unfold State.advance; split <;> rfl
@[simp] theorem State.advance_inputs (t : Reg) (s : State) : (s.advance t).inputs = s.inputs := by
  unfold State.advance; split <;> rfl
@[simp] theorem State.advance_slot (t : Reg) (s : State) : (s.advance t).slot = s.slot := by
  unfold State.advance; split <;> rfl
@[simp] theorem State.advance_trace (t : Reg) (s : State) : (s.advance t).trace = s.trace := by
  unfold State.advance; split <;> rfl

/-- The advance to an entry that is not `undef` (R164). -/
theorem State.advance_of_read {t : Reg} {s : State} {d : Word} (h : s.chain.read t.toNat = some d) :
    s.advance t = { s with didx := t, bcnt := dCount d, sptr := dSrcoff d } := by
  unfold State.advance; rw [h]; rfl

/-- The advance to an `undef` entry draws a free value. -/
theorem State.advance_of_undef {t : Reg} {s : State} (h : s.chain.read t.toNat = none) :
    s.advance t =
      { s with didx := t, bcnt := dCount (Config.undefDescriptor s.draws),
               sptr := dSrcoff (Config.undefDescriptor s.draws), draws := s.draws + 1 } := by
  unfold State.advance; rw [h]; rfl

/-! ### endBeat -/

@[simp] theorem State.endBeat_cfg (b : Bool) (n : Reg) (s : State) : (s.endBeat b n).cfg = s.cfg := by
  unfold State.endBeat; split <;> simp
@[simp] theorem State.endBeat_bound (b : Bool) (n : Reg) (s : State) : (s.endBeat b n).bound = s.bound := by
  unfold State.endBeat; split <;> simp
@[simp] theorem State.endBeat_begun (b : Bool) (n : Reg) (s : State) : (s.endBeat b n).begun = s.begun := by
  unfold State.endBeat; split <;> simp
@[simp] theorem State.endBeat_run (b : Bool) (n : Reg) (s : State) : (s.endBeat b n).run = s.run := by
  unfold State.endBeat; split <;> simp
@[simp] theorem State.endBeat_fault (b : Bool) (n : Reg) (s : State) : (s.endBeat b n).fault = s.fault := by
  unfold State.endBeat; split <;> simp
@[simp] theorem State.endBeat_div (b : Bool) (n : Reg) (s : State) : (s.endBeat b n).div = s.div := by
  unfold State.endBeat; split <;> simp
@[simp] theorem State.endBeat_dacOut (b : Bool) (n : Reg) (s : State) : (s.endBeat b n).dacOut = s.dacOut := by
  unfold State.endBeat; split <;> simp
@[simp] theorem State.endBeat_fieldLatch (b : Bool) (n : Reg) (s : State) : (s.endBeat b n).fieldLatch = s.fieldLatch := by
  unfold State.endBeat; split <;> simp
@[simp] theorem State.endBeat_fb (b : Bool) (n : Reg) (s : State) : (s.endBeat b n).fb = s.fb := by
  unfold State.endBeat; split <;> simp
@[simp] theorem State.endBeat_chain (b : Bool) (n : Reg) (s : State) : (s.endBeat b n).chain = s.chain := by
  unfold State.endBeat; split <;> simp
@[simp] theorem State.endBeat_clrBusy (b : Bool) (n : Reg) (s : State) : (s.endBeat b n).clrBusy = s.clrBusy := by
  unfold State.endBeat; split <;> simp
@[simp] theorem State.endBeat_clrPend (b : Bool) (n : Reg) (s : State) : (s.endBeat b n).clrPend = s.clrPend := by
  unfold State.endBeat; split <;> simp
@[simp] theorem State.endBeat_dmaAvail (b : Bool) (n : Reg) (s : State) : (s.endBeat b n).dmaAvail = s.dmaAvail := by
  unfold State.endBeat; split <;> simp
@[simp] theorem State.endBeat_memAvail (b : Bool) (n : Reg) (s : State) : (s.endBeat b n).memAvail = s.memAvail := by
  unfold State.endBeat; split <;> simp
@[simp] theorem State.endBeat_rspValid (b : Bool) (n : Reg) (s : State) : (s.endBeat b n).rspValid = s.rspValid := by
  unfold State.endBeat; split <;> simp
@[simp] theorem State.endBeat_rsp (b : Bool) (n : Reg) (s : State) : (s.endBeat b n).rsp = s.rsp := by
  unfold State.endBeat; split <;> simp
@[simp] theorem State.endBeat_dacWr (b : Bool) (n : Reg) (s : State) : (s.endBeat b n).dacWr = s.dacWr := by
  unfold State.endBeat; split <;> simp
@[simp] theorem State.endBeat_pixTick (b : Bool) (n : Reg) (s : State) : (s.endBeat b n).pixTick = s.pixTick := by
  unfold State.endBeat; split <;> simp
@[simp] theorem State.endBeat_inputs (b : Bool) (n : Reg) (s : State) : (s.endBeat b n).inputs = s.inputs := by
  unfold State.endBeat; split <;> simp
@[simp] theorem State.endBeat_slot (b : Bool) (n : Reg) (s : State) : (s.endBeat b n).slot = s.slot := by
  unfold State.endBeat; split <;> simp
@[simp] theorem State.endBeat_trace (b : Bool) (n : Reg) (s : State) : (s.endBeat b n).trace = s.trace := by
  unfold State.endBeat; split <;> simp

/-- A beat that is not the last of its descriptor (R163). -/
theorem State.endBeat_of_more {b : Bool} {n : Reg} {s : State} (h : 1 < s.bcnt.toNat) :
    s.endBeat b n = { s with bcnt := s.bcnt - 1, sptr := if b then s.sptr + 1 else s.sptr } := by
  unfold State.endBeat; rw [if_pos h]

/-- The last beat of a descriptor advances (R163). -/
theorem State.endBeat_of_last {b : Bool} {n : Reg} {s : State} (h : s.bcnt.toNat ≤ 1) :
    s.endBeat b n = s.advance n := by
  unfold State.endBeat; rw [if_neg (by omega)]

/-! ### clearFinish, clearStore -/

@[simp] theorem State.clearFinish_cfg (s : State) : s.clearFinish.cfg = s.cfg := by
  unfold State.clearFinish; split <;> rfl
@[simp] theorem State.clearFinish_bound (s : State) : s.clearFinish.bound = s.bound := by
  unfold State.clearFinish; split <;> rfl
@[simp] theorem State.clearFinish_begun (s : State) : s.clearFinish.begun = s.begun := by
  unfold State.clearFinish; split <;> rfl
@[simp] theorem State.clearFinish_run (s : State) : s.clearFinish.run = s.run := by
  unfold State.clearFinish; split <;> rfl
@[simp] theorem State.clearFinish_fault (s : State) : s.clearFinish.fault = s.fault := by
  unfold State.clearFinish; split <;> rfl
@[simp] theorem State.clearFinish_didx (s : State) : s.clearFinish.didx = s.didx := by
  unfold State.clearFinish; split <;> rfl
@[simp] theorem State.clearFinish_bcnt (s : State) : s.clearFinish.bcnt = s.bcnt := by
  unfold State.clearFinish; split <;> rfl
@[simp] theorem State.clearFinish_sptr (s : State) : s.clearFinish.sptr = s.sptr := by
  unfold State.clearFinish; split <;> rfl
@[simp] theorem State.clearFinish_div (s : State) : s.clearFinish.div = s.div := by
  unfold State.clearFinish; split <;> rfl
@[simp] theorem State.clearFinish_dacOut (s : State) : s.clearFinish.dacOut = s.dacOut := by
  unfold State.clearFinish; split <;> rfl
@[simp] theorem State.clearFinish_fieldLatch (s : State) : s.clearFinish.fieldLatch = s.fieldLatch := by
  unfold State.clearFinish; split <;> rfl
@[simp] theorem State.clearFinish_fb (s : State) : s.clearFinish.fb = s.fb := by
  unfold State.clearFinish; split <;> rfl
@[simp] theorem State.clearFinish_chain (s : State) : s.clearFinish.chain = s.chain := by
  unfold State.clearFinish; split <;> rfl
@[simp] theorem State.clearFinish_clrPend (s : State) : s.clearFinish.clrPend = s.clrPend := by
  unfold State.clearFinish; split <;> rfl
@[simp] theorem State.clearFinish_dmaAvail (s : State) : s.clearFinish.dmaAvail = s.dmaAvail := by
  unfold State.clearFinish; split <;> rfl
@[simp] theorem State.clearFinish_memAvail (s : State) : s.clearFinish.memAvail = s.memAvail := by
  unfold State.clearFinish; split <;> rfl
@[simp] theorem State.clearFinish_dacWr (s : State) : s.clearFinish.dacWr = s.dacWr := by
  unfold State.clearFinish; split <;> rfl
@[simp] theorem State.clearFinish_pixTick (s : State) : s.clearFinish.pixTick = s.pixTick := by
  unfold State.clearFinish; split <;> rfl
@[simp] theorem State.clearFinish_inputs (s : State) : s.clearFinish.inputs = s.inputs := by
  unfold State.clearFinish; split <;> rfl
@[simp] theorem State.clearFinish_draws (s : State) : s.clearFinish.draws = s.draws := by
  unfold State.clearFinish; split <;> rfl
@[simp] theorem State.clearStore_cfg (k : Nat) (s : State) : (s.clearStore k).cfg = s.cfg := by
  unfold State.clearStore; split
  · split <;> simp
  · rfl
@[simp] theorem State.clearStore_bound (k : Nat) (s : State) : (s.clearStore k).bound = s.bound := by
  unfold State.clearStore; split
  · split <;> simp
  · rfl
@[simp] theorem State.clearStore_begun (k : Nat) (s : State) : (s.clearStore k).begun = s.begun := by
  unfold State.clearStore; split
  · split <;> simp
  · rfl
@[simp] theorem State.clearStore_run (k : Nat) (s : State) : (s.clearStore k).run = s.run := by
  unfold State.clearStore; split
  · split <;> simp
  · rfl
@[simp] theorem State.clearStore_fault (k : Nat) (s : State) : (s.clearStore k).fault = s.fault := by
  unfold State.clearStore; split
  · split <;> simp
  · rfl
@[simp] theorem State.clearStore_didx (k : Nat) (s : State) : (s.clearStore k).didx = s.didx := by
  unfold State.clearStore; split
  · split <;> simp
  · rfl
@[simp] theorem State.clearStore_bcnt (k : Nat) (s : State) : (s.clearStore k).bcnt = s.bcnt := by
  unfold State.clearStore; split
  · split <;> simp
  · rfl
@[simp] theorem State.clearStore_sptr (k : Nat) (s : State) : (s.clearStore k).sptr = s.sptr := by
  unfold State.clearStore; split
  · split <;> simp
  · rfl
@[simp] theorem State.clearStore_div (k : Nat) (s : State) : (s.clearStore k).div = s.div := by
  unfold State.clearStore; split
  · split <;> simp
  · rfl
@[simp] theorem State.clearStore_dacOut (k : Nat) (s : State) : (s.clearStore k).dacOut = s.dacOut := by
  unfold State.clearStore; split
  · split <;> simp
  · rfl
@[simp] theorem State.clearStore_fieldLatch (k : Nat) (s : State) : (s.clearStore k).fieldLatch = s.fieldLatch := by
  unfold State.clearStore; split
  · split <;> simp
  · rfl
@[simp] theorem State.clearStore_chain (k : Nat) (s : State) : (s.clearStore k).chain = s.chain := by
  unfold State.clearStore; split
  · split <;> simp
  · rfl
@[simp] theorem State.clearStore_dmaAvail (k : Nat) (s : State) : (s.clearStore k).dmaAvail = s.dmaAvail := by
  unfold State.clearStore; split
  · split <;> simp
  · rfl
@[simp] theorem State.clearStore_memAvail (k : Nat) (s : State) : (s.clearStore k).memAvail = s.memAvail := by
  unfold State.clearStore; split
  · split <;> simp
  · rfl
@[simp] theorem State.clearStore_dacWr (k : Nat) (s : State) : (s.clearStore k).dacWr = s.dacWr := by
  unfold State.clearStore; split
  · split <;> simp
  · rfl
@[simp] theorem State.clearStore_pixTick (k : Nat) (s : State) : (s.clearStore k).pixTick = s.pixTick := by
  unfold State.clearStore; split
  · split <;> simp
  · rfl
@[simp] theorem State.clearStore_inputs (k : Nat) (s : State) : (s.clearStore k).inputs = s.inputs := by
  unfold State.clearStore; split
  · split <;> simp
  · rfl
@[simp] theorem State.clearStore_draws (k : Nat) (s : State) : (s.clearStore k).draws = s.draws := by
  unfold State.clearStore; split
  · split <;> simp
  · rfl

/-- Everything a CLEAR store can do: nothing when no CLEAR is in progress, otherwise one pending offset
is stored and removed, or nothing was pending; then the CLEAR is over if nothing is pending (R149). -/
theorem State.clearStore_cases (k : Nat) (s : State) :
    (s.clrBusy = false ∧ s.clearStore k = s) ∨
    (s.clrBusy = true ∧ s.clrPend = [] ∧ s.clearStore k = s.clearFinish) ∨
    (s.clrBusy = true ∧ ∃ o, s.clrPend[k % s.clrPend.length]? = some o ∧
      s.clearStore k =
        State.clearFinish
          { s with fb := s.fb.write o (activeSample s.cfg (o % s.cfg.R)),
                   clrPend := s.clrPend.eraseIdx (k % s.clrPend.length) }) := by
  unfold State.clearStore
  split
  · next hb =>
    split
    · next o ho => exact .inr (.inr ⟨hb, o, ho, rfl⟩)
    · next ho =>
      refine .inr (.inl ⟨hb, ?_, rfl⟩)
      by_contra hne
      have hlen : 0 < s.clrPend.length := List.length_pos_iff.mpr hne
      exact absurd (Nat.mod_lt k hlen) (by simpa using ho)
  · next hb => exact .inl ⟨by simpa using hb, rfl⟩

/-! ### sampleFor -/

@[simp] theorem State.sampleFor_cfg (i : Instr) (a b : Bool) (s : State) : (s.sampleFor i a b).cfg = s.cfg := by
  unfold State.sampleFor; split <;> rfl
@[simp] theorem State.sampleFor_bound (i : Instr) (a b : Bool) (s : State) : (s.sampleFor i a b).bound = s.bound := by
  unfold State.sampleFor; split <;> rfl
@[simp] theorem State.sampleFor_begun (i : Instr) (a b : Bool) (s : State) : (s.sampleFor i a b).begun = s.begun := by
  unfold State.sampleFor; split <;> rfl
@[simp] theorem State.sampleFor_run (i : Instr) (a b : Bool) (s : State) : (s.sampleFor i a b).run = s.run := by
  unfold State.sampleFor; split <;> rfl
@[simp] theorem State.sampleFor_fault (i : Instr) (a b : Bool) (s : State) : (s.sampleFor i a b).fault = s.fault := by
  unfold State.sampleFor; split <;> rfl
@[simp] theorem State.sampleFor_didx (i : Instr) (a b : Bool) (s : State) : (s.sampleFor i a b).didx = s.didx := by
  unfold State.sampleFor; split <;> rfl
@[simp] theorem State.sampleFor_bcnt (i : Instr) (a b : Bool) (s : State) : (s.sampleFor i a b).bcnt = s.bcnt := by
  unfold State.sampleFor; split <;> rfl
@[simp] theorem State.sampleFor_sptr (i : Instr) (a b : Bool) (s : State) : (s.sampleFor i a b).sptr = s.sptr := by
  unfold State.sampleFor; split <;> rfl
@[simp] theorem State.sampleFor_div (i : Instr) (a b : Bool) (s : State) : (s.sampleFor i a b).div = s.div := by
  unfold State.sampleFor; split <;> rfl
@[simp] theorem State.sampleFor_dacOut (i : Instr) (a b : Bool) (s : State) : (s.sampleFor i a b).dacOut = s.dacOut := by
  unfold State.sampleFor; split <;> rfl
@[simp] theorem State.sampleFor_fieldLatch (i : Instr) (a b : Bool) (s : State) : (s.sampleFor i a b).fieldLatch = s.fieldLatch := by
  unfold State.sampleFor; split <;> rfl
@[simp] theorem State.sampleFor_fb (i : Instr) (a b : Bool) (s : State) : (s.sampleFor i a b).fb = s.fb := by
  unfold State.sampleFor; split <;> rfl
@[simp] theorem State.sampleFor_chain (i : Instr) (a b : Bool) (s : State) : (s.sampleFor i a b).chain = s.chain := by
  unfold State.sampleFor; split <;> rfl
@[simp] theorem State.sampleFor_clrBusy (i : Instr) (a b : Bool) (s : State) : (s.sampleFor i a b).clrBusy = s.clrBusy := by
  unfold State.sampleFor; split <;> rfl
@[simp] theorem State.sampleFor_clrPend (i : Instr) (a b : Bool) (s : State) : (s.sampleFor i a b).clrPend = s.clrPend := by
  unfold State.sampleFor; split <;> rfl
@[simp] theorem State.sampleFor_rspValid (i : Instr) (a b : Bool) (s : State) : (s.sampleFor i a b).rspValid = s.rspValid := by
  unfold State.sampleFor; split <;> rfl
@[simp] theorem State.sampleFor_rsp (i : Instr) (a b : Bool) (s : State) : (s.sampleFor i a b).rsp = s.rsp := by
  unfold State.sampleFor; split <;> rfl
@[simp] theorem State.sampleFor_dacWr (i : Instr) (a b : Bool) (s : State) : (s.sampleFor i a b).dacWr = s.dacWr := by
  unfold State.sampleFor; split <;> rfl
@[simp] theorem State.sampleFor_pixTick (i : Instr) (a b : Bool) (s : State) : (s.sampleFor i a b).pixTick = s.pixTick := by
  unfold State.sampleFor; split <;> rfl
@[simp] theorem State.sampleFor_inputs (i : Instr) (a b : Bool) (s : State) : (s.sampleFor i a b).inputs = s.inputs := by
  unfold State.sampleFor; split <;> rfl
@[simp] theorem State.sampleFor_slot (i : Instr) (a b : Bool) (s : State) : (s.sampleFor i a b).slot = s.slot := by
  unfold State.sampleFor; split <;> rfl
@[simp] theorem State.sampleFor_trace (i : Instr) (a b : Bool) (s : State) : (s.sampleFor i a b).trace = s.trace := by
  unfold State.sampleFor; split <;> rfl
@[simp] theorem State.sampleFor_draws (i : Instr) (a b : Bool) (s : State) : (s.sampleFor i a b).draws = s.draws := by
  unfold State.sampleFor; split <;> rfl

/-- A BEGIN that may start the engine samples the two inputs (R203). -/
theorem State.sampleFor_begin {a b : Bool} {s : State} (h : s.bound = true) (h' : s.begun = false) :
    s.sampleFor .begin a b = s.sample a b := if_pos ⟨rfl, h, h'⟩

/-- No other command samples anything (R12). -/
theorem State.sampleFor_of_ne {i : Instr} {a b : Bool} {s : State} (h : i ≠ .begin) :
    s.sampleFor i a b = s := if_neg (fun c => h c.1)

/-- Whatever a command samples, only the two fields of the inputs change. -/
theorem State.sampleFor_eq (i : Instr) (a b : Bool) (s : State) :
    s.sampleFor i a b = { s with dmaAvail := (s.sampleFor i a b).dmaAvail,
                                 memAvail := (s.sampleFor i a b).memAvail } := by
  unfold State.sampleFor; split <;> rfl

/-! ### Beats by kind -/

/-- Everything a video beat can do. -/
theorem videoBeat_cases {ok : Bool} {v : Option Sample} {n : Reg} {s t : State}
    (h : videoBeat ok v n s = .next t) :
    (ok = true ∧ ∃ x, v = some x ∧ t = (s.dacWrite x).endBeat true n) ∨
    ((ok = false ∨ v = none) ∧ t = s.engineFault) := by
  unfold videoBeat at h
  cases ok <;> cases v <;> simp_all

/-- Everything a latch beat can do. -/
theorem latchBeat_cases {ok : Bool} {b : Byte} {n : Reg} {s t : State}
    (h : latchBeat ok b n s = .next t) :
    (ok = true ∧ t = (s.latchWrite b).endBeat false n) ∨ (ok = false ∧ t = s.engineFault) := by
  unfold latchBeat at h
  cases ok <;> simp_all

/-- Everything a pixel store can do. -/
theorem pixelStore_cases {o : Nat} {v : Sample} {s t : State} (h : pixelStore o v s = .next t) :
    o < s.cfg.fbSize ∧ t = State.respond statusOk 0 { s with fb := s.fb.write o v } := by
  unfold pixelStore at h
  split at h <;> simp_all

/-- What a draw before BEGIN can answer. -/
theorem beforeBegin_cases {s t : State} (h : beforeBegin s = .next t) :
    s.cfg.earlyDraw = .noop ∧ t = s.respond statusOk 0 := by
  unfold beforeBegin at h
  split at h <;> simp_all

/-! ### Memory operations keep the canonical form -/

theorem State.clearFinish_fb_wf (s : State) (h : s.fb.wf) : s.clearFinish.fb.wf := by simpa using h

theorem State.clearStore_fb_wf (k : Nat) (s : State) (h : s.fb.wf) : (s.clearStore k).fb.wf := by
  rcases s.clearStore_cases k with ⟨-, e⟩ | ⟨-, -, e⟩ | ⟨-, o, -, e⟩ <;> rw [e]
  · exact h
  · simpa using h
  · simpa using Memory.write_wf _ _ _ h

theorem State.beginSuccess_fb_wf (s : State) : s.beginSuccess.fb.wf := blackFrame_wf _

theorem State.beginSuccess_chain_wf (s : State) : s.beginSuccess.chain.wf := builtChain_wf _

theorem State.reset_fb_wf : State.reset.fb.wf := List.Pairwise.nil

theorem State.reset_chain_wf : State.reset.chain.wf := List.Pairwise.nil

theorem State.resetWith_fb_wf (c : Config) (v : Sample) : (State.resetWith c v).fb.wf := List.Pairwise.nil

theorem placeDescriptor_chain_wf (d : Word) (s : State) (h : s.chain.wf) : (placeDescriptor d s).chain.wf :=
  Memory.write_wf _ _ _ h

end Sys2Proof.Machine
end

