-- ==== Sys2Proof/Laws/PerInstr.lean ====
section
/-! SUPPORT. Statements made per instruction: the fixed bits of every encoding are those of its row
(30_encoding.md R94, R101). -/

namespace Sys2Proof.Laws.RowBits

/-- The bits that name the row: the top 16 bits of a descriptor word (R94), the `OP` field of a command
word (R101). -/
def code : Instr → Nat
  | .xferTtOdd _ _ => 0x1800
  | .xferTtEven _ _ => 0x5800
  | .xferRow _ _ _ => 0x9800
  | .markOdd _ => 0xE000
  | .markEven _ => 0xE000
  | .create _ => 0
  | .begin => 1
  | .stop => 2
  | .setPixel _ _ _ _ => 3
  | .clear => 4
  | .setFieldHint _ => 5
  | .getField => 6

/-- The encoding of `i` carries its row's code, and its reserved field is 0. -/
def Statement (i : Instr) : Prop :=
  if i.isDescriptor then (dTop (encode i)).toNat = code i ∧ dRsv (encode i) = 0
  else (hOp (encode i)).toNat = code i ∧ hRsv (encode i) = 0

theorem xferTtOdd (count next : Reg) : Statement (.xferTtOdd count next) := by
  simp [Statement, Instr.isDescriptor, encode, code]
theorem xferTtEven (count next : Reg) : Statement (.xferTtEven count next) := by
  simp [Statement, Instr.isDescriptor, encode, code]
theorem xferRow (count srcoff next : Reg) : Statement (.xferRow count srcoff next) := by
  simp [Statement, Instr.isDescriptor, encode, code]
theorem markOdd (next : Reg) : Statement (.markOdd next) := by
  simp [Statement, Instr.isDescriptor, encode, code]
theorem markEven (next : Reg) : Statement (.markEven next) := by
  simp [Statement, Instr.isDescriptor, encode, code]
theorem create (mode : Byte) : Statement (.create mode) := by
  simp [Statement, Instr.isDescriptor, encode, code]
theorem begin : Statement .begin := by
  simp [Statement, Instr.isDescriptor, encode, code]
theorem stop : Statement .stop := by
  simp [Statement, Instr.isDescriptor, encode, code]
theorem setPixel (rot : Rotation) (x y : Reg) (brightness : Byte) :
    Statement (.setPixel rot x y brightness) := by
  simp [Statement, Instr.isDescriptor, encode, code]
theorem clear : Statement .clear := by
  simp [Statement, Instr.isDescriptor, encode, code]
theorem setFieldHint (value : Byte) : Statement (.setFieldHint value) := by
  simp [Statement, Instr.isDescriptor, encode, code]
theorem getField : Statement .getField := by
  simp [Statement, Instr.isDescriptor, encode, code]

end Sys2Proof.Laws.RowBits
end

