-- ==== Sys2Proof/Laws/Step.lean ====
section
/-! SUPPORT. Everything one step can do, said once: which move was made on which prepared state, and
what each move and each instruction can answer. -/

namespace Sys2Proof.Machine

/-- A descriptor word decodes only to a descriptor kind. -/
theorem decodeDescriptor_isDescriptor {d : Word} {i : Instr} (h : decodeDescriptor d = .ok i) :
    i.isDescriptor = true := by
  unfold decodeDescriptor at h
  repeat' split at h
  all_goals first | (cases h; rfl) | cases h

/-- A command word decodes only to a host command. -/
theorem decodeCommand_isCommand {w : Word} {i : Instr} (h : decodeCommand w = .ok i) :
    i.isDescriptor = false := by
  unfold decodeCommand at h
  repeat' split at h
  all_goals first | (cases h; rfl) | cases h

/-- `s'` is `s` with some moves taken off, the edge shared out, no pulse raised and perhaps a free value
drawn. -/
structure Prepared (s s' : State) : Prop where
  eq : s' = { s with inputs := s'.inputs, slot := s'.slot, draws := s'.draws,
                     rspValid := s'.rspValid, dacWr := s'.dacWr, pixTick := s'.pixTick }
  rspValid : s'.rspValid = true → s.rspValid = true
  dacWr : s'.dacWr = true → s.dacWr = true
  pixTick : s'.pixTick = true → s.pixTick = true
  inputs : ∀ i ∈ s'.inputs, i ∈ s.inputs

/-- Quieting pulses raises none. -/
theorem State.quietIf_prepared {b : Bool} {sl : EdgeSlot} {ins : List Input} {n : Nat} {s : State}
    (h : ∀ i ∈ ins, i ∈ s.inputs) :
    Prepared s (State.quietIf b { s with slot := sl, inputs := ins, draws := n }) := by
  refine ⟨rfl, ?_, ?_, ?_, h⟩ <;> cases b <;> simp

/-- Each turn of an edge prepares the state for its move. -/
theorem State.engineTurn_prepared {ins : List Input} {n : Nat} {s : State} (h : ∀ i ∈ ins, i ∈ s.inputs) :
    Prepared s (State.engineTurn { s with inputs := ins, draws := n }) := State.quietIf_prepared h

theorem State.hostTurn_prepared {ins : List Input} {n : Nat} {s : State} (h : ∀ i ∈ ins, i ∈ s.inputs) :
    Prepared s (State.hostTurn { s with inputs := ins, draws := n }) := State.quietIf_prepared h

theorem State.storeTurn_prepared {ins : List Input} {n : Nat} {s : State} (h : ∀ i ∈ ins, i ∈ s.inputs) :
    Prepared s (State.storeTurn { s with inputs := ins, draws := n }) := State.quietIf_prepared h

/-- Everything a step can do: the configuration is well-formed and one of the four moves was made, a
command or a reset only on an edge on which no command was accepted before (R12). -/
theorem step_cases {s t : State} (h : step s = .next t) :
    s.cfg.WF ∧ ∃ s', Prepared s s' ∧
      ((clockEdge s' = .next t ∧ (s.inputs = [] ∨ s.inputs.head? = some .edge ∨
          ∃ i, s.inputs.head? = some i ∧ s.waits i = true)) ∨
       (s.slot ≠ .hostDone ∧ ∃ w dma mem, s.inputs = .command w dma mem :: s'.inputs ∧
          presentCommand w dma mem s' = .next t) ∨
       (∃ k, t = s'.clearStore k) ∨
       (s.slot ≠ .hostDone ∧ ∃ dac, s.inputs = .reset dac :: s'.inputs ∧ t = s'.resetEdge dac)) := by
  unfold step nextMove at h
  split at h
  · next hwf =>
    refine ⟨hwf, ?_⟩
    split at h
    · next hin =>
      unfold idleMove at h
      split at h
      · split at h
        · next k _ =>
          refine ⟨s.drawn.storeTurn, State.storeTurn_prepared fun _ h => h, .inr (.inr (.inl ⟨k, ?_⟩))⟩
          injection h with h; exact h.symm
        · exact ⟨s.drawn.engineTurn, State.engineTurn_prepared fun _ h => h, .inl ⟨h, .inl hin⟩⟩
      · exact ⟨s.engineTurn, State.engineTurn_prepared fun _ h => h, .inl ⟨h, .inl hin⟩⟩
    · next i rest hin =>
      split at h
      · next hw =>
        exact ⟨s.engineTurn, State.engineTurn_prepared fun _ h => h, .inl ⟨h, .inr (.inr ⟨i, by rw [hin]; rfl, hw⟩)⟩⟩
      · next hw =>
        have hsub : ∀ j ∈ rest, j ∈ s.inputs := fun j hj => by rw [hin]; exact List.mem_cons_of_mem _ hj
        cases i with
        | edge =>
          exact ⟨State.engineTurn { s with inputs := rest }, State.engineTurn_prepared hsub,
            .inl ⟨h, .inr (.inl (by rw [hin]; rfl))⟩⟩
        | command w dma mem =>
          exact ⟨State.hostTurn { s with inputs := rest }, State.hostTurn_prepared hsub,
            .inr (.inl ⟨by simpa [State.waits] using hw, w, dma, mem, hin, h⟩)⟩
        | clearStore k =>
          injection h with h
          exact ⟨_, State.storeTurn_prepared hsub, .inr (.inr (.inl ⟨k, h.symm⟩))⟩
        | reset dac =>
          injection h with h
          exact ⟨{ s with inputs := rest }, ⟨rfl, id, id, id, hsub⟩,
            .inr (.inr (.inr ⟨by simpa [State.waits] using hw, dac, hin, h.symm⟩))⟩
  · cases h

/-- Everything a clock edge can do (R181). -/
theorem clockEdge_cases {s t : State} (h : clockEdge s = .next t) :
    (s.run = false ∧ t = s) ∨
    (s.run = true ∧ s.div.toNat + 1 ≠ s.cfg.P ∧ t = s.countEdge) ∨
    (s.run = true ∧ s.div.toNat + 1 = s.cfg.P ∧ beat s.tickStart = .next t) := by
  unfold clockEdge at h
  split at h
  · next hr =>
    split at h
    · next hp => exact .inr (.inr ⟨hr, hp, h⟩)
    · next hp => injection h with h; exact .inr (.inl ⟨hr, hp, h.symm⟩)
  · next hr => injection h with h; exact .inl ⟨by simpa using hr, h.symm⟩

/-- Everything a beat can do: the fault on an unreadable or undecodable word, or the meaning of the
descriptor (R163, R222). -/
theorem beat_cases {s t : State} (h : beat s = .next t) :
    t = s.engineFault ∨
    ∃ d i, fetchDescriptor s = some d ∧ decodeDescriptor d = .ok i ∧ exec i s = .next t := by
  unfold beat at h
  split at h
  · injection h with h; exact .inl h.symm
  · next d hd =>
    split at h
    · next i hi => exact .inr ⟨d, i, hd, hi, h⟩
    · injection h with h; exact .inl h.symm

/-- Everything the command port can do (R12, R103, R220). -/
theorem presentCommand_cases {w : Word} {dma mem : Bool} {s t : State}
    (h : presentCommand w dma mem s = .next t) :
    (s.clrBusy = true ∧ t = s) ∨
    (s.clrBusy = false ∧ ∃ i, decodeCommand w = .ok i ∧ exec i (s.sampleFor i dma mem) = .next t) ∨
    (s.clrBusy = false ∧ (∃ e, decodeCommand w = .error e) ∧
      t = s.raise .illegalCommand (w.extractLsb' 56 8)) := by
  unfold presentCommand at h
  split at h
  · next hb => injection h with h; exact .inl ⟨hb, h.symm⟩
  · next hb =>
    have hb : s.clrBusy = false := by simpa using hb
    split at h
    · next i hi => exact .inr (.inl ⟨hb, i, hi, h⟩)
    · next e he => injection h with h; exact .inr (.inr ⟨hb, ⟨e, he⟩, h.symm⟩)

/-- Everything a descriptor's beat can do: a sample to the DAC, a marker to the latch, or the fault. -/
theorem exec_descriptor_cases {i : Instr} {s t : State} (hi : i.isDescriptor = true)
    (h : exec i s = .next t) :
    (∃ v n, t = (s.dacWrite v).endBeat true n) ∨
    (∃ b n, (b = oddMarker ∨ b = evenMarker) ∧ t = (s.latchWrite b).endBeat false n) ∨
    t = s.engineFault := by
  cases i with
  | xferTtOdd count next =>
    rcases videoBeat_cases h with ⟨-, x, -, e⟩ | ⟨-, e⟩
    exacts [.inl ⟨x, next, e⟩, .inr (.inr e)]
  | xferTtEven count next =>
    rcases videoBeat_cases h with ⟨-, x, -, e⟩ | ⟨-, e⟩
    exacts [.inl ⟨x, next, e⟩, .inr (.inr e)]
  | xferRow count srcoff next =>
    rcases videoBeat_cases h with ⟨-, x, -, e⟩ | ⟨-, e⟩
    exacts [.inl ⟨x, next, e⟩, .inr (.inr e)]
  | markOdd next =>
    rcases latchBeat_cases h with ⟨-, e⟩ | ⟨-, e⟩
    exacts [.inr (.inl ⟨_, next, .inl rfl, e⟩), .inr (.inr e)]
  | markEven next =>
    rcases latchBeat_cases h with ⟨-, e⟩ | ⟨-, e⟩
    exacts [.inr (.inl ⟨_, next, .inr rfl, e⟩), .inr (.inr e)]
  | _ => cases hi

/-- Everything a host command can do: a response after one of the state changes listed, or the
acceptance of a CLEAR. -/
theorem exec_command_cases {i : Instr} {s t : State} (hi : i.isDescriptor = false)
    (h : exec i s = .next t) :
    (∃ st d, t = s.respond st d) ∨
    (i = .create s.cfg.modeId ∧ t = s.setBound.respond statusOk 0) ∨
    (i = .begin ∧ s.bound = true ∧ s.begun = false ∧ s.dmaAvail = true ∧ s.memAvail = true ∧
      t = s.beginSuccess.respond statusOk 0x01) ∨
    (i = .stop ∧ t = s.stopRun.respond statusOk 0) ∨
    (∃ rot x y b, i = .setPixel rot x y b ∧ s.begun = true ∧ clipped s.cfg rot x.toInt y.toInt = false ∧
      pixelOffset s.cfg rot x.toNat y.toNat < s.cfg.fbSize ∧
      t = State.respond statusOk 0
        { s with fb := s.fb.write (pixelOffset s.cfg rot x.toNat y.toNat) (quantize s.cfg b) }) ∨
    (i = .clear ∧ s.begun = true ∧ t = s.clearStart) ∨
    (∃ v, i = .setFieldHint v ∧ t = (s.latchWrite v).respond statusOk 0) := by
  cases i with
  | create mode =>
    simp only [exec, execCreate] at h
    split at h
    · next hm => injection h with h; exact .inr (.inl ⟨by rw [hm], h.symm⟩)
    · injection h with h; exact .inl ⟨_, _, h.symm⟩
  | begin =>
    simp only [exec, execBegin] at h
    split at h
    · next hb =>
      split at h
      · injection h with h; exact .inl ⟨_, _, h.symm⟩
      · next hg =>
        split at h
        · next hr =>
          injection h with h
          simp only [Bool.and_eq_true] at hr
          exact .inr (.inr (.inl ⟨rfl, hb, by simpa using hg, hr.1, hr.2, h.symm⟩))
        · injection h with h; exact .inl ⟨_, _, h.symm⟩
    · injection h with h; exact .inl ⟨_, _, h.symm⟩
  | stop =>
    simp only [exec, execStop] at h
    injection h with h
    exact .inr (.inr (.inr (.inl ⟨rfl, h.symm⟩)))
  | setPixel rot x y b =>
    simp only [exec, execSetPixel] at h
    split at h
    · next hb =>
      split at h
      · injection h with h; exact .inl ⟨_, _, h.symm⟩
      · next hc =>
        obtain ⟨ho, e⟩ := pixelStore_cases h
        exact .inr (.inr (.inr (.inr (.inl ⟨rot, x, y, b, rfl, hb, by simpa using hc, ho, e⟩))))
    · obtain ⟨-, e⟩ := beforeBegin_cases h; exact .inl ⟨_, _, e⟩
  | clear =>
    simp only [exec, execClear] at h
    split at h
    · next hb => injection h with h; exact .inr (.inr (.inr (.inr (.inr (.inl ⟨rfl, hb, h.symm⟩)))))
    · obtain ⟨-, e⟩ := beforeBegin_cases h; exact .inl ⟨_, _, e⟩
  | setFieldHint v =>
    simp only [exec, execSetFieldHint] at h
    injection h with h
    exact .inr (.inr (.inr (.inr (.inr (.inr ⟨v, rfl, h.symm⟩)))))
  | getField =>
    simp only [exec, execGetField] at h
    injection h with h
    exact .inl ⟨_, _, h.symm⟩
  | _ => cases hi

end Sys2Proof.Machine
end

