-- ==== Sys2Proof/Machine/Print.lean ====
section
/-! DEFINITION. The textual form a printer emits (30_encoding.md R105, R106) and the pseudo-instructions
(R107), each expanding to the instructions it names, WAIT_FIELD as the
polling protocol it stands for (44_field_latch.md R195). -/

namespace Sys2Proof.Machine

/-- The `rot=` operand as a number (R100, R106). -/
def rotationNumber (r : Rotation) : Nat := (rotationBits r).toNat

/-- One instruction as text (R105, R106). `COUNT` and `SRCOFF` are not written: the kind, the row and the
configuration determine them, for a well-formed descriptor. An ill-formed one has no text in R105: that it is
printed all the same, its row being `SRCOFF` divided by `R` rounded down and its `COUNT` dropped, so that it can
look like a legal line, is the model's choice (DESIGN CHOICE, unsafe, log entry 25). -/
def printInstr (c : Config) : Instr → String
  | .xferTtOdd _ next => "XFER_TT_ODD -> " ++ next.toNat.repr
  | .xferTtEven _ next => "XFER_TT_EVEN -> " ++ next.toNat.repr
  | .xferRow _ srcoff next => "XFER_ROW " ++ (srcoff.toNat / c.R).repr ++ " -> " ++ next.toNat.repr
  | .markOdd next => "MARK_ODD -> " ++ next.toNat.repr
  | .markEven next => "MARK_EVEN -> " ++ next.toNat.repr
  | .create mode => "CREATE " ++ mode.toNat.repr
  | .begin => "BEGIN"
  | .stop => "STOP"
  | .setPixel rot x y brightness =>
    "SET_PIXEL " ++ x.toInt.repr ++ ", " ++ y.toInt.repr ++ ", " ++ brightness.toNat.repr
      ++ (if rot = .deg0 then "" else ", rot=" ++ (rotationNumber rot).repr)
  | .clear => "CLEAR"
  | .setFieldHint value => "SET_FIELD_HINT " ++ value.toNat.repr
  | .getField => "GET_FIELD"

/-- A descriptor line with its index (R105), printed for any number (DESIGN CHOICE, log entry 25). -/
def printIndexed (c : Config) (index : Nat) (i : Instr) : String :=
  index.repr ++ ": " ++ printInstr c i

/-- `CHAIN_STD`: the 436 descriptors in order (R107, R166). -/
def chainStd (c : Config) : List Instr := (List.range numDescriptors).map (chainInstr c)

/-- A command as the host's next move, both availability inputs at 1. Only BEGIN looks at them, and for it
this is the premise a claim of success takes (R203). -/
def hostMove (i : Instr) : Input := .command (encode i) true true

/-- The state a step leads to; none where the machine stops. -/
def State.stepTo (s : State) : Option State :=
  match step s with
  | .next t => some t
  | .fault _ | .refused _ => none

/-- The machine makes the move `m`, after the engine's step of the current edge where `m` waits for it
(R12); none where it stops. -/
def State.makeMove (m : Input) (s : State) : Option State :=
  if s.waits m then (State.stepTo { s with inputs := [m] }).bind State.stepTo
  else State.stepTo { s with inputs := [m] }

/-- The engine is given `n` clock edges. -/
def State.giveEdges : Nat → State → Option State
  | 0, s => some s
  | n + 1, s => (s.makeMove .edge).bind (State.giveEdges n)

/-- The data byte of the response word (R216). -/
def State.rspData (s : State) : Byte := s.rsp.extractLsb' 0 8

/-- "Repeat GET_FIELD until the result is not 0" (R195): the byte that ended the poll and the state then.
Before its `i`-th GET_FIELD the host lets `gaps[i]` clock edges pass: any number may (U16), beside the one
whose engine step the GET_FIELD waits for where the command before it took that edge (R12). None where the
host gives up, `gaps` being used up with every result 0. -/
def pollField : List Nat → State → Option (Byte × State)
  | [], _ => none
  | n :: gaps, s =>
    match (s.giveEdges n).bind (State.makeMove (hostMove .getField)) with
    | none => none
    | some t => if t.rspValid ∧ t.rspData ≠ 0 then some (t.rspData, t) else pollField gaps t

/-- `WAIT_FIELD` (R107, R195): SET_FIELD_HINT 0, then the poll. The host begins it when the port is ready. -/
def waitField (gaps : List Nat) (s : State) : Option (Byte × State) :=
  if s.cmdReady then (s.makeMove (hostMove (.setFieldHint 0))).bind (pollField gaps) else none

/-- `WAIT_TICKS k`: the edges of `k` pixel ticks, counted from `DIV = 0` (R107, R181). R107 does not say on which
edge after the `k`-th tick the next command comes, and U16 leaves it free: that there are exactly `k * P` edges, so
that from `DIV = 0` the command directly follows the `k`-th tick, is the model's choice (DESIGN CHOICE, log entry
26). -/
def waitTicks (c : Config) (k : Nat) : List Input := List.replicate (k * c.P) .edge

end Sys2Proof.Machine
end

