-- ==== Sys2Proof/Laws/Protocol.lean ====
section
/-! SUPPORT. What the polling protocol can answer (44_field_latch.md R195). -/

namespace Sys2Proof.Machine

/-- A state a step leads to. -/
theorem State.stepTo_eq_some {s t : State} : s.stepTo = some t ↔ step s = .next t := by
  unfold State.stepTo
  split <;> simp_all

/-- A clock edge leaves the latch, or writes one of the two markers (R28). -/
theorem clockEdge_fieldLatch {s t : State} (h : clockEdge s = .next t) :
    t.fieldLatch = s.fieldLatch ∨ t.fieldLatch = oddMarker ∨ t.fieldLatch = evenMarker := by
  rcases clockEdge_cases h with ⟨-, rfl⟩ | ⟨-, -, rfl⟩ | ⟨-, -, hb⟩
  · exact .inl rfl
  · exact .inl rfl
  · rcases beat_cases hb with rfl | ⟨d, i, -, hd, he⟩
    · exact .inl rfl
    · rcases exec_descriptor_cases (decodeDescriptor_isDescriptor hd) he with
        ⟨v, n, rfl⟩ | ⟨b, n, hm, rfl⟩ | rfl
      · exact .inl (by simp)
      · exact .inr (by simpa using hm)
      · exact .inl rfl

/-- A clock edge leaves a CLEAR in progress alone. -/
theorem clockEdge_clrBusy {s t : State} (h : clockEdge s = .next t) : t.clrBusy = s.clrBusy := by
  rcases clockEdge_cases h with ⟨-, rfl⟩ | ⟨-, -, rfl⟩ | ⟨-, -, hb⟩
  · rfl
  · rfl
  · rcases beat_cases hb with rfl | ⟨d, i, -, hd, he⟩
    · rfl
    · rcases exec_descriptor_cases (decodeDescriptor_isDescriptor hd) he with
        ⟨v, n, rfl⟩ | ⟨b, n, -, rfl⟩ | rfl
      · simp
      · simp
      · rfl

/-- A clock edge leaves the moves to come and the sharing of the edge alone. -/
theorem clockEdge_keeps {s t : State} (h : clockEdge s = .next t) :
    t.slot = s.slot ∧ t.inputs = s.inputs := by
  rcases clockEdge_cases h with ⟨-, rfl⟩ | ⟨-, -, rfl⟩ | ⟨-, -, hb⟩
  · exact ⟨rfl, rfl⟩
  · exact ⟨rfl, rfl⟩
  · rcases beat_cases hb with rfl | ⟨d, i, -, hd, he⟩
    · exact ⟨rfl, rfl⟩
    · rcases exec_descriptor_cases (decodeDescriptor_isDescriptor hd) he with
        ⟨v, n, rfl⟩ | ⟨b, n, -, rfl⟩ | rfl
      · simp
      · simp
      · exact ⟨rfl, rfl⟩

/-- An edge move is the engine's turn of the edge and its clock step. -/
theorem State.makeMove_edge {s t : State} (h : s.makeMove .edge = some t) :
    clockEdge (State.engineTurn { s with inputs := [] }) = .next t := by
  have h : State.stepTo { s with inputs := [.edge] } = some t := h
  rw [State.stepTo_eq_some] at h
  unfold step nextMove at h
  split at h
  · exact h
  · cases h

/-- A command move on a ready port is the command's meaning, on a state with the same latch and port: the
engine's step of the current edge may come before it, and only that step may have written the latch. -/
theorem State.makeMove_hostMove {i : Instr} {s t : State} (hd : decodeCommand (encode i) = .ok i)
    (hb : s.clrBusy = false) (h : s.makeMove (hostMove i) = some t) :
    ∃ u : State, u.clrBusy = false ∧
      (u.fieldLatch = s.fieldLatch ∨ u.fieldLatch = oddMarker ∨ u.fieldLatch = evenMarker) ∧
      exec i (u.sampleFor i true true) = .next t := by
  have accept : ∀ v : State, v.slot ≠ .hostDone → v.clrBusy = false → v.inputs = [hostMove i] →
      step v = .next t → ∃ u : State, u.clrBusy = false ∧ u.fieldLatch = v.fieldLatch ∧
        exec i (u.sampleFor i true true) = .next t := by
    intro v hs hv hin hstep
    unfold step nextMove at hstep
    split at hstep
    · rw [hin] at hstep
      refine ⟨State.hostTurn { v with inputs := [] }, hv, rfl, ?_⟩
      simpa [hostMove, State.waits, hs, move, presentCommand, hd, hv] using hstep
    · cases hstep
  unfold State.makeMove at h
  split at h
  · next hw =>
    have hw : s.slot = .hostDone := by simpa [hostMove, State.waits] using hw
    obtain ⟨v, hv, h⟩ := Option.bind_eq_some_iff.mp h
    rw [State.stepTo_eq_some] at hv h
    have hv : clockEdge (State.engineTurn { s with inputs := [hostMove i] }) = .next v := by
      unfold step nextMove at hv
      split at hv
      · simpa [hostMove, State.waits, hw] using hv
      · cases hv
    have hk := clockEdge_keeps hv
    have hf := clockEdge_fieldLatch hv
    simp only [State.engineTurn_fieldLatch] at hf
    obtain ⟨u, hu, hl, he⟩ := accept v (by rw [hk.1]; simp [hw]) (by rw [clockEdge_clrBusy hv]; exact hb) hk.2 h
    exact ⟨u, hu, by rw [hl]; exact hf, he⟩
  · next hw =>
    rw [State.stepTo_eq_some] at h
    obtain ⟨u, hu, hl, he⟩ := accept { s with inputs := [hostMove i] }
      (by simpa [hostMove, State.waits] using hw) hb rfl h
    exact ⟨u, hu, .inl hl, he⟩

/-- Edges leave a ready port ready and the latch legal (R28). -/
theorem State.giveEdges_spec {n : Nat} {s t : State} (h : s.giveEdges n = some t) (hb : s.clrBusy = false)
    (hl : LatchLegal s) : t.clrBusy = false ∧ LatchLegal t := by
  induction n generalizing s with
  | zero => cases h; exact ⟨hb, hl⟩
  | succ n ih =>
    obtain ⟨u, hu, h⟩ := Option.bind_eq_some_iff.mp h
    have he := State.makeMove_edge hu
    refine ih h (clockEdge_clrBusy he ▸ hb) ?_
    rcases clockEdge_fieldLatch he with e | e
    · unfold LatchLegal; rw [e]; exact hl
    · exact .inr e

/-- What GET_FIELD answers the poller on a ready port: the latch, which it leaves alone (R194); the
engine's step of the current edge may have written a marker to it before. -/
theorem getField_spec {s t : State} (hb : s.clrBusy = false) (hl : LatchLegal s)
    (h : s.makeMove (hostMove .getField) = some t) :
    t.rspValid = true ∧ t.rspData = t.fieldLatch ∧ LatchLegal t ∧ t.clrBusy = false := by
  obtain ⟨u, hub, hu, he⟩ := State.makeMove_hostMove (i := .getField) (by simp [encode, decodeCommand]) hb h
  rw [State.sampleFor_of_ne (by simp)] at he
  simp only [exec, execGetField] at he
  injection he with he
  subst he
  refine ⟨rfl, ?_, ?_, hub⟩
  · exact extract_low (w := 8) _ _ 0 8 (by decide) |>.trans (by simp)
  · rcases hu with e | e
    · unfold LatchLegal; simp only [State.respond_fieldLatch]; rw [e]; exact hl
    · exact .inr e

/-- The poll ends with the latch's value, which is not 0 (R195). -/
theorem pollField_spec {gaps : List Nat} {s t : State} {v : Byte} (h : pollField gaps s = some (v, t))
    (hb : s.clrBusy = false) (hl : LatchLegal s) : v = t.fieldLatch ∧ (v = oddMarker ∨ v = evenMarker) := by
  induction gaps generalizing s with
  | nil => cases h
  | cons n gaps ih =>
    unfold pollField at h
    split at h
    · cases h
    · next u hu =>
      obtain ⟨w, hw, hu⟩ := Option.bind_eq_some_iff.mp hu
      obtain ⟨hwb, hwl⟩ := State.giveEdges_spec hw hb hl
      obtain ⟨-, hd, hul, hub⟩ := getField_spec hwb hwl hu
      split at h
      · next hne =>
        cases h
        exact ⟨hd, hd ▸ hul.resolve_left (hd ▸ hne.2)⟩
      · exact ih h hub hul

/-- WAIT_FIELD answers a marker written since its SET_FIELD_HINT 0 made the latch 0 (R195). -/
theorem waitField_spec {gaps : List Nat} {s t : State} {v : Byte} (h : waitField gaps s = some (v, t)) :
    ∃ u, s.makeMove (hostMove (.setFieldHint 0)) = some u ∧ u.fieldLatch = 0 ∧ pollField gaps u = some (v, t) ∧
      v = t.fieldLatch ∧ (v = oddMarker ∨ v = evenMarker) := by
  unfold waitField at h
  split at h
  · next hr =>
    have hb : s.clrBusy = false := by simpa [State.cmdReady] using hr
    obtain ⟨u, hu, hp⟩ := Option.bind_eq_some_iff.mp h
    obtain ⟨w, hwb, -, he⟩ :=
      State.makeMove_hostMove (i := .setFieldHint 0) (by simp [encode, decodeCommand]) hb hu
    rw [State.sampleFor_of_ne (by simp)] at he
    simp only [exec, execSetFieldHint] at he
    injection he with he
    subst he
    exact ⟨_, hu, rfl, hp, pollField_spec hp hwb (.inl rfl)⟩
  · cases h

end Sys2Proof.Machine
end

