-- ==== Sys2Proof/Tests/Slice0.lean ====
section
/-! SUPPORT. The model's own tests. Expected values are those of 95_test_vectors.md (its section in each
comment); every statement with hypotheses has a `witness_` theorem that meets them. -/

namespace Sys2Proof.Tests

open Sys2Proof Sys2Proof.Machine

-- one theorem after the other: many at once exhaust the threads
set_option Elab.async false

abbrev Ans := Host.Outcome State Fault Refusal

/-- The next state meets `p`. -/
def after (o : Ans) (p : State → Bool) : Bool :=
  match o with
  | .next s => p s
  | .fault _ | .refused _ => false

theorem next_of {o : Ans} (P : State → Prop) [DecidablePred P] (h : after o (fun t => decide (P t)) = true) :
    ∃ t, o = .next t ∧ P t := by
  unfold after at h
  split at h
  · exact ⟨_, rfl, of_decide_eq_true h⟩
  all_goals cases h

/-! ### States -/

/-- After CREATE. -/
def made : State := { State.reset with bound := true }

/-- After the first successful BEGIN (95_test_vectors.md 2.10 row 7). -/
def started : State := made.beginSuccess

/-- The engine at a position, the next step a pixel tick. -/
def atPos (d b p : Reg) : State :=
  { started with didx := d, bcnt := b, sptr := p, div := 53, inputs := [.edge] }

/-- The host about to present a word, both resources available. -/
def presenting (w : Word) (s : State) : State := { s with inputs := [.command w true true] }

/-- One store of a CLEAR is still to come. -/
def clearing : State := { started with clrBusy := true, clrPend := [1343], inputs := [.clearStore 0] }

/-! ### Well-formedness: one ill-formed term for each check (R95) -/

theorem test_wf_next : Instr.wellFormed Config.ex (.markOdd 436) = false := by decide +kernel
theorem test_wf_next_last : Instr.wellFormed Config.ex (.markEven 435) = true := by decide +kernel
theorem test_wf_next_row : Instr.wellFormed Config.ex (.xferRow 56 0 436) = false := by decide +kernel
theorem test_wf_count_odd : Instr.wellFormed Config.ex (.xferTtOdd 2632 1) = false := by decide +kernel
theorem test_wf_count_even : Instr.wellFormed Config.ex (.xferTtEven 2576 1) = false := by decide +kernel
theorem test_wf_count_row : Instr.wellFormed Config.ex (.xferRow 57 0 1) = false := by decide +kernel
theorem test_wf_row_multiple : Instr.wellFormed Config.ex (.xferRow 56 5 1) = false := by decide +kernel
theorem test_wf_row_exists : Instr.wellFormed Config.ex (.xferRow 56 1344 1) = false := by decide +kernel
theorem test_wf_row_last : Instr.wellFormed Config.ex (.xferRow 56 1288 1) = true := by decide +kernel
theorem test_wf_command : Instr.wellFormed Config.ex (.setPixel .deg90 0xFFFF 0x8000 255) = true := by
  decide +kernel

/-- R8, R124, R125: configurations that break one constraint each. -/
theorem test_wf_config :
    [{ Config.ex with W := 0 }, { Config.ex with X := 17 }, { Config.ex with R := 57 },
      { Config.ex with P := 0 }, { Config.ex with P := 65537 }, { Config.ex with blank := 260 },
      { Config.ex with eqHalf := [16] }, { Config.ex with eqHalf := List.replicate 28 220 },
      { Config.ex with serrHalf := List.replicate 28 16 },
      { Config.ex with serrHalf := List.replicate 14 16 ++ List.replicate 14 220 }].all
      (fun c : Config => !decide c.WF) = true := by
  decide +kernel

theorem test_config_refused :
    (match step { State.reset with cfg := { Config.ex with P := 0 } } with
      | .refused .illFormedConfig => true
      | _ => false) = true := by decide +kernel

/-! ### Decoding: words of 2.1 and 2.2 -/

/-- 2.1: the illegal descriptor words, in the order of the table. -/
theorem test_decode_illegal :
    [0x9800000000000001#64, 0x9C00003800000001#64, 0x9800003800050001#64, 0x9800003805400001#64,
      0x98000038000001B4#64, 0x1800006400000001#64, 0xE000000100030000#64, 0xC000000100010000#64,
      0x9801003800000002#64, 0xF000000100010000#64, 0x0000000000000000#64].map (decodeD Config.ex) =
    [.error .wrongCount, .error .noSuchRow, .error .wrongSource, .error .wrongSource,
      .error .nextOutOfRange, .error .wrongCount, .error .wrongSource, .error .noSuchRow,
      .error .reservedBits, .error .noSuchRow, .error .noSuchRow] := by decide +kernel

/-- 2.1: well-formed descriptor words. -/
theorem test_decode_descriptors :
    [0x18000A1000000001#64, 0x980000380038000B#64, 0x98000038050800D9#64, 0xE0000001000100DA#64,
      0x58000A48000000DB#64, 0xE000000100020000#64].map (decodeD Config.ex) =
    [.ok (.xferTtOdd 2576 1), .ok (.xferRow 56 56 11), .ok (.xferRow 56 1288 217), .ok (.markOdd 218),
      .ok (.xferTtEven 2632 219), .ok (.markEven 0)] := by decide +kernel

/-- 2.2: command words, and the illegal ones. -/
theorem test_decode_commands :
    [0x300000FFFF0000FF#64, 0x3000000000800007#64, 0x3000007FFF000007#64, 0x34000000170027FF#64,
      0x3C00000017002701#64, 0x7000000000000000#64, 0xF400000000000000#64,
      0x3000010000000000#64].map decodeCommand =
    [.ok (.setPixel .deg0 0xFFFF 0 255), .ok (.setPixel .deg0 0 0x8000 7), .ok (.setPixel .deg0 0x7FFF 0 7),
      .ok (.setPixel .deg90 23 39 255), .ok (.setPixel .deg270 23 39 1), .error .noSuchRow,
      .error .noSuchRow, .error .reservedBits] := by decide +kernel

/-- 2.1 and 2.2: `encode` gives the words. -/
theorem test_encode :
    [Instr.xferRow 56 112 7, .markOdd 5, .setPixel .deg180 0 0 255, .setPixel .deg0 39 23 128,
      .setFieldHint 0, .getField].map encode =
    [0x9800003800700007#64, 0xE000000100010005#64, 0x38000000000000FF#64, 0x3000000027001780#64,
      0x5000000000000000#64, 0x6000000000000000#64] := by decide +kernel

/-- 2.1, 2.2, P2: the text of instructions. -/
theorem test_print :
    printIndexed Config.ex 10 (.xferRow 56 56 11) = "10: XFER_ROW 1 -> 11" ∧
    printInstr Config.ex (.setPixel .deg0 0xFFFF 0 255) = "SET_PIXEL -1, 0, 255" ∧
    printInstr Config.ex (.setPixel .deg90 23 39 255) = "SET_PIXEL 23, 39, 255, rot=1" := by
  decide +kernel

/-! ### Tables, quantisation, chain: 2.3, 2.4, 2.6 -/

theorem test_tt_odd :
    (ttOdd Config.ex).length = 2576 ∧ (ttOdd Config.ex).count 16 = 316 ∧ (ttOdd Config.ex).count 220 = 2260 ∧
    [0, 3, 4, 55, 56, 897, 898, 924, 1087, 1088, 1092, 1232, 1403, 1404, 2575].map (fun i => (ttOdd Config.ex)[i]?) =
      [16, 16, 220, 220, 16, 16, 220, 16, 16, 220, 16, 16, 16, 220, 220].map some := by decide +kernel

theorem test_tt_even :
    (ttEven Config.ex).length = 2632 ∧ (ttEven Config.ex).count 16 = 322 ∧ (ttEven Config.ex).count 220 = 2310 ∧
    [0, 899, 900, 924, 925, 926, 952, 954, 1092, 1115, 1116, 1260, 1262, 1403, 1404, 2631].map
        (fun i => (ttEven Config.ex)[i]?) =
      [16, 16, 220, 16, 16, 220, 16, 220, 16, 16, 220, 16, 220, 16, 220, 220].map some := by decide +kernel

theorem test_quantize :
    [0, 1, 2, 51, 64, 127, 128, 200, 254, 255].map (quantize Config.ex) =
      [260, 262, 265, 400, 435, 608, 611, 809, 957, 960] ∧
    quantize { Config.ex with black := 0, white := 65535 } 128 = 32896 ∧
    quantize { Config.ex with black := 100, white := 101 } 254 = 100 := by decide +kernel

theorem test_chain :
    [0, 1, 9, 10, 216, 217, 218, 219, 227, 434, 435].map (chainBuild Config.ex) =
      [0x18000A1000000001#64, 0x9800003800000002#64, 0x980000380000000A#64, 0x980000380038000B#64,
        0x98000038050800D9#64, 0xE0000001000100DA#64, 0x58000A48000000DB#64, 0x98000038000000DC#64,
        0x98000038000000E4#64, 0x98000038050801B3#64, 0xE000000100020000#64] := by decide +kernel

/-! ### Beats: the rows of 2.7 -/

/-- Beat 2575: the last of the odd table. -/
theorem test_xferTtOdd :
    after (step (atPos 0 1 2575)) (fun t => t.dacOut = 220 && t.didx = 1 && t.bcnt = 56 && t.sptr = 0) = true := by
  decide +kernel

/-- Beat 15597: the equalizing half of the mixed line. -/
theorem test_xferTtEven :
    after (step (atPos 218 1708 924))
      (fun t => t.dacOut = 16 && t.didx = 218 && t.bcnt = 1707 && t.sptr = 925) = true := by
  decide +kernel

/-- Beat 14671: the last of the odd field's rows. -/
theorem test_xferRow :
    after (step (atPos 216 1 1343)) (fun t => t.dacOut = 220 && t.didx = 217 && t.bcnt = 1 && t.sptr = 1) = true := by
  decide +kernel

/-- P5, beat 16: a row descriptor reads the pixel stored before. -/
theorem test_xferRow_pixel :
    after (step { atPos 5 41 127 with chain := [(5, 0x9800003800700007#64)], fb := started.fb.write 127 611 })
      (fun t => t.dacOut = 611 && t.didx = 5 && t.bcnt = 40 && t.sptr = 128) = true := by
  decide +kernel

/-- Beat 14672: the latch takes 1, the DAC is not written. -/
theorem test_markOdd :
    after (step { atPos 217 1 1 with dacOut := 220 })
      (fun t => t.fieldLatch = 1 && t.dacOut = 220 && !t.dacWr && t.pixTick && t.didx = 218 && t.bcnt = 2632
        && t.sptr = 0) = true := by
  decide +kernel

/-- Beat 29401: the latch takes 2, the chain wraps. -/
theorem test_markEven :
    after (step { atPos 435 1 2 with dacOut := 220, fieldLatch := 1 })
      (fun t => t.fieldLatch = 2 && t.dacOut = 220 && !t.dacWr && t.didx = 0 && t.bcnt = 2576 && t.sptr = 0)
      = true := by
  decide +kernel

/-! ### Commands: the rows of 2.5, 2.9, 2.10 -/

/-- 2.10 row 2. -/
theorem test_create_unsupported :
    after (step (presenting 0x0000000000000001#64 State.reset)) (fun t => t.rsp = 0x0201 && !t.bound) = true := by
  decide +kernel

/-- 2.10 row 3. -/
theorem test_create :
    after (step (presenting 0x0000000000000000#64 State.reset)) (fun t => t.rsp = 0x0000 && t.bound) = true := by
  decide +kernel

/-- 2.10 rows 1, 4, 5 and 6. -/
theorem test_begin_fails :
    after (step (presenting 0x1000000000000000#64 State.reset)) (fun t => t.rsp = 0x0400) &&
    after (presentCommand 0x1000000000000000#64 false true made) (fun t => t.rsp = 0x0102 && !t.begun && !t.run) &&
    after (presentCommand 0x1000000000000000#64 true false made) (fun t => t.rsp = 0x0104 && t.fb = []) &&
    after (presentCommand 0x1000000000000000#64 false false made) (fun t => t.rsp = 0x0106 && !t.begun)
      = true := by
  decide +kernel

/-- 2.10 row 7. -/
theorem test_begin :
    after (step (presenting 0x1000000000000000#64 made))
      (fun t => t.rsp = 0x0001 && t.begun && t.run && t.didx = 0 && t.bcnt = 2576 && t.sptr = 0 && t.div = 0
        && t.fb.read 12 = some 260 && t.fb.read 1343 = some 220 && t.chain.read 435 = some 0xE000000100020000#64)
      = true := by
  decide +kernel

/-- 2.10 row 12. -/
theorem test_stop :
    after (step (presenting 0x2000000000000000#64 (atPos 1 43 13)))
      (fun t => t.rsp = 0x0000 && !t.run && t.begun && t.didx = 1 && t.bcnt = 43 && t.sptr = 13) = true := by
  decide +kernel

/-- 2.5: `SET_PIXEL 23, 39, 1, rot=3`. -/
theorem test_setPixel :
    after (step (presenting 0x3C00000017002701#64 started))
      (fun t => t.rsp = 0x0000 && t.fb = started.fb.write 51 262) = true := by
  decide +kernel

/-- 2.5: clipped on each side. -/
theorem test_setPixel_clipped :
    [0x34000000180000FF#64, 0x30000000280000FF#64, 0x30000000000018FF#64, 0x300000FFFF0000FF#64,
      0x3000000000800007#64].all
      (fun w => after (step (presenting w started)) (fun t => t.rsp = 0 && t.rspValid && t.fb = started.fb))
      = true := by
  decide +kernel

/-- 2.5: before BEGIN a CLEAR responds and does nothing; after it every offset is pending. -/
theorem test_clear :
    after (step (presenting 0x4000000000000000#64 made)) (fun t => t.rspValid && t.rsp = 0 && t.cmdReady) &&
    after (step (presenting 0x4C00000000000000#64 started))
      (fun t => !t.rspValid && !t.cmdReady && t.clrPend.length = 1344) = true := by
  decide +kernel

/-- The last store of a CLEAR: the element is `ACTIVE_LINE[55]` and the response comes. -/
theorem test_clear_store :
    after (step { clearing with fb := started.fb.write 1343 960 })
      (fun t => t.cmdReady && t.rspValid && t.rsp = 0 && t.fb.read 1343 = some 220) = true := by
  decide +kernel

/-- 2.9: the breach of duty is stored. -/
theorem test_setFieldHint :
    after (step (presenting 0x5000000000000002#64 State.reset)) (fun t => t.rsp = 0 && t.fieldLatch = 2) = true := by
  decide +kernel

/-- 2.9: no clear on read. -/
theorem test_getField :
    after (step (presenting 0x6000000000000000#64 { started with fieldLatch := 1 }))
      (fun t => t.rsp = 0x0001 && t.fieldLatch = 1) = true := by
  decide +kernel

/-- 2.9, P3, R195: the markers 1 and 2 left by earlier fields are erased; the poll answers 0 until the latch
beat, here on the second edge, and then the marker of the field that ended. The SET_FIELD_HINT takes the first
edge, whose engine step the first GET_FIELD waits for (R12). -/
theorem test_waitField :
    (waitField [0, 1, 1, 0] { atPos 435 1 2 with div := 52, fieldLatch := 1 }).map Prod.fst = some 2 ∧
    (waitField [0, 0] { atPos 217 1 1 with div := 52, fieldLatch := 2 }).map Prod.fst = some 1 ∧
    (waitField [0] { atPos 217 1 1 with div := 52, fieldLatch := 2 }).map Prod.fst = none := by
  decide +kernel

/-- R12, U16: the first of two commands is accepted and the second waits for the engine's step of that edge,
here a pixel tick; then it is accepted on the next. The pulses of one edge are high together and go low with the
next. -/
theorem test_one_command_per_edge :
    after (step { atPos 217 1 1 with inputs := [.command 0x5000000000000000#64 true true, .command 0x6000000000000000#64 true true] })
      (fun t => t.rspValid && t.inputs.length = 1 &&
        after (step t) (fun u => u.fieldLatch = 1 && u.pixTick && u.rspValid && u.inputs.length = 1 &&
          after (step u) (fun v => v.rsp = 0x0001 && v.rspValid && !v.pixTick && v.inputs = []))) = true := by
  decide +kernel

/-- R12: a command accepted on the edge of a beat, after it: `dac_wr`, `pix_tick` and `rsp_valid` are high on that
edge, and the edge that follows finds them low. -/
theorem test_pulses_of_one_edge :
    after (step { atPos 0 1 2575 with inputs := [.edge, .command 0x6000000000000000#64 true true] })
      (fun t => t.dacWr && t.pixTick && !t.rspValid &&
        after (step t) (fun u => u.dacWr && u.pixTick && u.rspValid &&
          after (step u) (fun v => !v.dacWr && !v.pixTick && !v.rspValid))) = true := by
  decide +kernel

/-- R12, R149: `cmd_ready` is 0 on the edge of a CLEAR's last store, so the next command is accepted on a later
edge, whichever agent acted first on that one. -/
theorem test_clear_last_edge :
    after (step { clearing with slot := .engineDone })
      (fun t => t.rspValid && t.cmdReady && t.slot = .fresh &&
        after (step (presenting 0x6000000000000000#64 t)) (fun u => u.slot = .hostDone)) &&
    after (step { clearing with inputs := [.clearStore 0, .command 0x6000000000000000#64 true true] })
      (fun t => t.rspValid && t.cmdReady && t.slot = .hostDone &&
        after (step t) (fun u => u.div = 1 && u.slot = .fresh && u.inputs.length = 1)) = true := by
  decide +kernel

/-- 2.8, R183: BEGIN's own edge counts for nothing; edge 1 finds `DIV = 0`, which is the first tick where
`P = 1`, and a command may be accepted on edge 1. -/
theorem test_first_edge_after_begin :
    [1, 54].all (fun p =>
      after (step (presenting 0x1000000000000000#64 { made with cfg := { Config.ex with P := p } }))
        (fun t => t.run && t.div = 0 && !t.pixTick &&
          after (step t) (fun u => u.pixTick = (p = 1) && u.div = (if p = 1 then 0 else 1)
            && u.dacOut = (if p = 1 then 16 else 0)) &&
          after (step (presenting 0x6000000000000000#64 t)) (fun u => u.rspValid && u.div = 0 &&
            after (step u) (fun v => v.pixTick = (p = 1))))) = true := by
  decide +kernel

/-- R12, R203: only a BEGIN with `BOUND = 1`, `BEGUN = 0` samples the availability inputs. -/
theorem test_sampled_by_begin :
    [made, started, State.reset].map (fun s =>
      [0x0000000000000000#64, 0x1000000000000000#64, 0x2000000000000000#64, 0x6000000000000000#64].map fun w =>
        after (step (presenting w s)) (fun t => t.dmaAvail && t.memAvail)) =
    [[false, true, false, false], [false, false, false, false], [false, false, false, false]] := by
  decide +kernel

/-- 2.2: the responses to the illegal words. -/
theorem test_illegal_command :
    ([0x7000000000000000#64, 0xF400000000000000#64, 0x3000010000000000#64].map
      fun w => after (step (presenting w started)) (fun t => t.rsp = 0x0300#16 ||| (w >>> 56).setWidth 16)) =
    [true, true, true] := by
  decide +kernel

/-- 2.12: an ill-formed and an `undef` current descriptor. -/
theorem test_engine_fault :
    after (step { atPos 0 1 0 with chain := [(0, 0x9800000000000001#64)] })
      (fun t => t.fault && !t.run && !t.dacWr && t.didx = 0) &&
    after (step { atPos 3 1 0 with chain := [] }) (fun t => t.fault && !t.run && t.didx = 3) = true := by
  decide +kernel

/-- 2.11: reset of a running block, a command not presented. -/
theorem test_reset :
    after (step { atPos 1 43 13 with inputs := [.reset 7] })
      (fun t => !t.bound && !t.begun && !t.run && t.didx = 0 && t.bcnt = 0 && t.fb = [] && t.chain = []
        && t.dacOut = 7 && !t.rspValid) = true := by
  decide +kernel

/-- 2.8: edge 53 does not tick, edge 54 does. -/
theorem test_divider :
    after (step { started with div := 52 }) (fun t => t.div = 53 && !t.pixTick) &&
    after (step { started with div := 53 }) (fun t => t.div = 0 && t.pixTick && t.dacOut = 16) = true := by
  decide +kernel

/-- A table word runs as the first instruction after reset, from either format. -/
theorem test_withFetchWord :
    after (step (State.reset.withFetchWord 64 0xE000000100010000)) (fun t => t.fieldLatch = 1) &&
    after (step (State.reset.withFetchWord 64 0x6000000000000000)) (fun t => t.rspValid) = true := by
  decide +kernel

/-! ### Witnesses: states and operands that meet the hypotheses of the statements -/

theorem started_fb : started.fb = blackFrame Config.ex := by decide +kernel

theorem clearing_fb : clearing.fb = blackFrame Config.ex := by decide +kernel

theorem atPos_fb (d b p : Reg) : (atPos d b p).fb = blackFrame Config.ex := by
  simp only [atPos, started_fb]

theorem started_chain : started.chain = builtChain Config.ex := by decide +kernel

theorem buffer_of {s : State} (hc : s.cfg = Config.ex) (hf : s.fb = blackFrame Config.ex) (o : Nat)
    (h : o < s.cfg.fbSize) : s.fb.read o = some (activeSample s.cfg (o % s.cfg.R)) := by
  rw [hf, hc, blackFrame_read, if_pos (by rwa [hc] at h)]

theorem buffer_none {s : State} (hc : s.cfg = Config.ex) (hf : s.fb = blackFrame Config.ex) (o : Nat)
    (h : s.cfg.fbSize ≤ o) : s.fb.read o = none := by
  rw [hf, blackFrame_read, if_neg (by rw [hc] at h; omega)]

theorem active_in_range (c : Config) (h : c.WF) (col : Nat) :
    c.sync.toNat ≤ (activeSample c col).toNat ∧ (activeSample c col).toNat ≤ c.white.toNat := by
  obtain ⟨-, -, -, h, -⟩ := h
  unfold activeSample
  repeat' split
  all_goals omega

/-- Every element of the black frame is in range. -/
theorem bufferOk_of {s : State} (hc : s.cfg = Config.ex) (hf : s.fb = blackFrame Config.ex) : BufferOk s :=
  fun o h => ⟨_, buffer_of hc hf o h, active_in_range _ (by rw [hc]; decide +kernel) _⟩

theorem started_position : PositionOk started :=
  ⟨0x18000A1000000001#64, by decide +kernel, ⟨.xferTtOdd 2576 1, by decide +kernel⟩, by decide +kernel,
    by decide +kernel, by decide +kernel, fun _ => by decide +kernel, fun h => absurd h (by decide +kernel),
    fun h => absurd h (by decide +kernel)⟩

theorem clearing_position : PositionOk clearing :=
  ⟨0x18000A1000000001#64, by decide +kernel, ⟨.xferTtOdd 2576 1, by decide +kernel⟩, by decide +kernel,
    by decide +kernel, by decide +kernel, fun _ => by decide +kernel, fun h => absurd h (by decide +kernel),
    fun h => absurd h (by decide +kernel)⟩

/-- A running block meets the invariant. -/
theorem witness_inv_started : started.Inv where
  config := by decide +kernel
  fbCanonical := by rw [started_fb]; exact blackFrame_wf _
  fbInside := buffer_none rfl started_fb
  unallocated h := absurd h (by decide)
  buffer _ := bufferOk_of rfl started_fb
  chainBuilt _ := started_chain
  boundFirst _ := rfl
  begunFirst _ := rfl
  noFault := rfl
  position _ := started_position
  divider _ := by decide
  clearing := by decide
  pendRising := by decide
  pendInside := by decide
  clearAfterBegin _ := rfl

/-- So does one in which a CLEAR is in progress. -/
theorem witness_inv_clearing : clearing.Inv where
  config := by decide +kernel
  fbCanonical := by rw [clearing_fb]; exact blackFrame_wf _
  fbInside := buffer_none rfl clearing_fb
  unallocated h := absurd h (by decide)
  buffer _ := bufferOk_of rfl clearing_fb
  chainBuilt _ := started_chain
  boundFirst _ := rfl
  begunFirst _ := rfl
  noFault := rfl
  position _ := clearing_position
  divider _ := by decide
  clearing := by decide
  pendRising := by decide
  pendInside := by decide
  clearAfterBegin _ := rfl

/-- A begun and running state that a run reaches: CREATE 0 on one edge, then BEGIN with both resources
on the next. -/
theorem witness_reachable : ∃ s, Reachable Config.ex s ∧ s.begun = true ∧ s.run = true := by
  obtain ⟨t, ht, hb⟩ := next_of (o := step (presenting 0x0000000000000000#64 State.reset))
    (fun t => t = { State.reset with bound := true, slot := .hostDone, rspValid := true, trace := [.rsp 0] })
    (by decide +kernel)
  have r1 : Reachable Config.ex t := .step _ _ (.outside _ _ (.reset 0)) ht
  subst hb
  obtain ⟨u, hu, hb⟩ := next_of (o := step
      { State.reset with bound := true, slot := .hostDone, rspValid := true, trace := [.rsp 0], inputs := [.edge] })
    (fun u => u = { State.reset with bound := true, rspValid := true, trace := [.rsp 0] }) (by decide +kernel)
  have r2 : Reachable Config.ex u := .step _ _ (.outside _ [.edge] r1) hu
  subst hb
  obtain ⟨v, hv, hr⟩ := next_of (o := step (presenting 0x1000000000000000#64
      { State.reset with bound := true, rspValid := true, trace := [.rsp 0] }))
    (fun v => v.begun = true ∧ v.run = true) (by decide +kernel)
  exact ⟨v, .step _ _ (.outside _ _ r2) hv, hr⟩

theorem witness_EncodeDecodeRoundTrip :
    Instr.isDescriptor (.xferRow 56 1288 435) = true ∧ Instr.isDescriptor (.setPixel .deg270 0xFFFF 0x8000 255) = false ∧
    Instr.wellFormed Config.ex (.xferRow 56 1288 435) = true := by decide +kernel

theorem witness_DescriptorWordsEncodeBack :
    decodeDescriptor 0x98000038050800D9#64 = .ok (.xferRow 56 1288 217) := by decide +kernel

theorem witness_ReservedCommandsAreIllegal :
    State.reset.clrBusy = false ∧ 7 ≤ (hOp 0x7000000000000000#64).toNat ∧ 7 ≤ (hOp 0xF400000000000000#64).toNat ∧
    hRsv 0x3000010000000000#64 ≠ 0 ∧ (1 : BitVec 4) ≠ 0 ∧ (1 : BitVec 4) ≠ 3 ∧ (1 : BitVec 4) ≠ 5 := by
  decide +kernel

theorem witness_WellFormedDescriptorIsNoCommand :
    Config.ex.WF ∧ decodeD Config.ex 0xE000000100020000#64 = .ok (.markEven 0) := by decide +kernel

theorem witness_OddTableSegments :
    Config.ex.WF ∧ 3 < 4 ∧ 4 ≤ 55 ∧ 15 < 16 ∧ 55 < Config.ex.R ∧ 5 < 6 ∧ 27 < Config.ex.half := by
  decide +kernel

theorem witness_EvenTableSegments :
    Config.ex.WF ∧ 15 < 16 ∧ 55 < Config.ex.R ∧ 5 < 6 ∧ 4 < 5 ∧ 27 < Config.ex.half := by decide +kernel

theorem witness_TableInvariants :
    Config.ex.WF ∧ (16 : Sample) ∈ ttOdd Config.ex ∧ (220 : Sample) ∈ ttEven Config.ex ∧
    ∃ t, step started = .next t ∧ t.div = 1 :=
  ⟨by decide +kernel, by decide +kernel, by decide +kernel, next_of _ (by decide +kernel)⟩

/-- Columns 0, 3, 4, 8, 9, 54 and 55: every boundary of the active line. -/
theorem witness_ActiveLineByIndex :
    Config.ex.WF ∧ [0, 3, 4, 8, 9, 54, 55].all (fun col => decide (col < Config.ex.R)) = true ∧
    [0, 3, 4, 8, 9, 54, 55].map (activeSample Config.ex) = [16, 16, 220, 220, 260, 260, 220] := by
  decide +kernel

theorem witness_RotationRoundTrip :
    39 < (logicalSize Config.ex .deg0).1 ∧ 23 < (logicalSize Config.ex .deg0).2 ∧
    23 < (logicalSize Config.ex .deg90).1 ∧ 39 < (logicalSize Config.ex .deg90).2 ∧
    rotate Config.ex .deg90 23 39 = (0, 23) ∧ unrotate Config.ex .deg90 0 23 = (23, 39) := by decide +kernel

theorem witness_QuantizeLaw : Config.ex.WF ∧ (254 : Byte).toNat ≤ (255 : Byte).toNat := by decide +kernel

/-- A corner of the logical rectangle under each rotation; the offsets are those of 2.5. -/
theorem witness_PixelOffsetInRow :
    Config.ex.WF ∧ (39 < Config.ex.W ∧ 23 < 24) ∧ 0 < (logicalSize Config.ex .deg180).1 ∧
    0 < (logicalSize Config.ex .deg180).2 ∧
    pixelOffset Config.ex .deg0 39 23 = 1339 ∧ pixelOffset Config.ex .deg90 23 39 = 1300 ∧
    pixelOffset Config.ex .deg180 0 0 = 1339 ∧ pixelOffset Config.ex .deg270 23 39 = 51 := by decide +kernel

/-- Before BEGIN; clipped at each of the four sides; the last point inside. -/
theorem witness_SetPixelResult :
    Config.ex.WF ∧ (made.begun = false ∧ made.cfg.earlyDraw = .noop) ∧
    (started.begun = true ∧ (0xFFFF : Reg).toInt < 0 ∧ ((logicalSize started.cfg .deg90).1 : Int) ≤ (24 : Reg).toInt ∧
      ((logicalSize started.cfg .deg0).2 : Int) ≤ (24 : Reg).toInt) ∧
    ((0 : Int) ≤ (39 : Reg).toInt ∧ (0 : Int) ≤ (23 : Reg).toInt ∧
      (39 : Reg).toInt < ((logicalSize started.cfg .deg0).1 : Int) ∧
      (23 : Reg).toInt < ((logicalSize started.cfg .deg0).2 : Int)) := by decide +kernel

theorem witness_DrawBeforeBegin :
    made.begun = false ∧ made.cfg.earlyDraw = .noop ∧
    { made with cfg := { Config.ex with earlyDraw := .fault } }.begun = false ∧
    { made with cfg := { Config.ex with earlyDraw := .fault } }.cfg.earlyDraw = .fault := by decide +kernel

theorem witness_SetPixelInsideInterior :
    started.cfg.WF ∧ started.cfg.WindowInsideInterior ∧
    ∃ t, exec (.setPixel .deg0 0 0 255) started = .next t ∧ t.fb.read 12 ≠ started.fb.read 12 :=
  ⟨by decide +kernel, by decide +kernel, next_of _ (by decide +kernel)⟩

theorem witness_BlankingSurvivesEveryStep :
    started.cfg.WindowInsideInterior ∧ BlankingIntact started ∧
    ∃ t, step (presenting 0x38000000000000FF#64 started) = .next t ∧ t.fb.read 1339 = some 960 :=
  ⟨by decide +kernel, fun _ o h _ => buffer_of rfl started_fb o h, next_of _ (by decide +kernel)⟩

theorem witness_BufferLevelsKept :
    (∃ s, Config.ex.WF ∧ Reachable Config.ex s ∧ s.begun = true) ∧ (started.begun = true → BufferOk started) ∧ ∃ t, step started = .next t ∧ t.begun = true :=
  ⟨witness_reachable.imp fun _ h => ⟨by decide +kernel, h.1, h.2.1⟩, fun _ => bufferOk_of rfl started_fb,
    next_of _ (by decide +kernel)⟩

theorem witness_ClearIsAccepted : started.begun = true ∧ clearing.cmdReady = false := by decide +kernel

/-- Two stores pending, and the last one. -/
theorem witness_ClearStoresOneElement :
    (clearing.clrBusy = true ∧ clearing.clrPend.Nodup ∧ clearing.clrPend ≠ [] ∧ 1343 ∈ clearing.clrPend) ∧
    ({ clearing with clrPend := [0, 1343] }.clrPend.Nodup ∧
      (State.clearStore 1 { clearing with clrPend := [0, 1343] }).clrPend = [0]) ∧
    (clearing.clearStore 0).clrPend = [] := by decide +kernel

theorem clearing_progress : ClearProgress clearing := fun _ o h _ => buffer_of rfl clearing_fb o h

theorem witness_ClearProgressKept :
    ClearProgress clearing ∧ ∃ t, step clearing = .next t ∧ t.clrPend = [] :=
  ⟨clearing_progress, next_of _ (by decide +kernel)⟩

theorem witness_ClearEndsInBlackFrame :
    clearing.Inv ∧ ClearProgress clearing ∧ clearing.clrBusy = true ∧
    ∃ t, step clearing = .next t ∧ t.clrBusy = false ∧ t.begun = true :=
  ⟨witness_inv_clearing, clearing_progress, rfl, next_of _ (by decide +kernel)⟩

theorem witness_XferTableBeats :
    started.cfg.WF ∧ (435 : Reg).toNat < 436 ∧
    ((2576 : Reg).toNat = 46 * started.cfg.R ∧ (atPos 0 1 2575).sptr.toNat < 46 * started.cfg.R) ∧
    ((2632 : Reg).toNat = 47 * started.cfg.R ∧ (atPos 218 1 2631).sptr.toNat < 47 * started.cfg.R) := by
  decide +kernel

theorem witness_XferRowBeat :
    started.cfg.WF ∧ (56 : Reg).toNat = started.cfg.R ∧ 23 < 24 ∧ (1288 : Reg).toNat = 23 * started.cfg.R ∧
    (435 : Reg).toNat < 436 ∧ (atPos 216 1 1343).sptr.toNat < 24 * started.cfg.R ∧
    (atPos 216 1 1343).fb.read (atPos 216 1 1343).sptr.toNat = some 220 := by decide +kernel

theorem witness_MarkBeats :
    (435 : Reg).toNat < 436 ∧ 1 < (atPos 217 2 1).bcnt.toNat ∧ (atPos 217 1 1).bcnt.toNat ≤ 1 := by decide +kernel

theorem witness_DescriptorFrame :
    (Instr.isDescriptor (.markOdd 218) = true ∧ ∃ t, exec (.markOdd 218) (atPos 217 1 1) = .next t ∧ t.fieldLatch = 1) ∧
    (Instr.isDescriptor (.xferRow 56 0 2) = true ∧
      ∃ t, exec (.xferRow 56 0 2) (atPos 1 44 12) = .next t ∧ t.dacOut = 260) :=
  ⟨⟨rfl, next_of _ (by decide +kernel)⟩, rfl, next_of _ (by decide +kernel)⟩

theorem witness_BadDescriptorFault :
    (Instr.isDescriptor (.xferRow 0 0 1) = true ∧ Instr.wellFormed started.cfg (.xferRow 0 0 1) = false) ∧
    436 ≤ (atPos 436 1 0).didx.toNat ∧
    { atPos 3 1 0 with chain := [] }.chain.read 3 = none ∧
    decodeD started.cfg 0x9800000000000001#64 = .error .wrongCount ∧
    State.reset.run = false ∧
    (started.bound = true ∧ started.begun = true ∧ started.engineFault.fault = true) ∧
    (Config.ex.WF ∧ Reachable Config.ex State.reset) ∧
    ∃ t, step started.engineFault = .next t ∧ t.fault = true :=
  ⟨by decide +kernel, by decide +kernel, by decide +kernel, by decide +kernel, by decide +kernel,
    by decide +kernel, ⟨by decide +kernel, .reset 0⟩, next_of _ (by decide +kernel)⟩

theorem witness_UnreadableSourceFaults :
    started.cfg.WF ∧ 46 * started.cfg.R ≤ (atPos 0 1 2576).sptr.toNat ∧
    47 * started.cfg.R ≤ (atPos 218 1 2632).sptr.toNat ∧ 24 * started.cfg.R ≤ (atPos 1 1 1344).sptr.toNat ∧
    { atPos 1 1 0 with fb := [] }.fb.read 0 = none := by decide +kernel

theorem witness_BeatFollowsItsFields :
    (atPos 0 1 2575).run = true ∧ (atPos 0 1 2575).div.toNat + 1 = (atPos 0 1 2575).cfg.P := by decide +kernel

theorem witness_AdvanceLoadsSuccessor :
    (started.cfg.WF ∧ (435 : Reg).toNat < 436 ∧
      decodeD started.cfg 0xE000000100020000#64 = .ok (.markEven 0)) ∧
    started.chain.read (435 : Reg).toNat = some 0xE000000100020000#64 ∧
    { started with chain := [(5, 0x9800000000000001#64)] }.chain.read (5 : Reg).toNat = some 0x9800000000000001#64 ∧
    decodeD started.cfg 0x9800000000000001#64 = .error .wrongCount := by decide +kernel

theorem witness_TableBeatsIgnoreBuffer :
    (∃ t, exec (.xferTtOdd 2576 1) (atPos 0 1 2575) = .next t ∧ t.dacOut = 220) ∧
    ∃ t, exec (.xferTtEven 2632 219) (atPos 218 1 2631) = .next t ∧ t.dacOut = 220 :=
  ⟨next_of _ (by decide +kernel), next_of _ (by decide +kernel)⟩

theorem witness_ClockStep :
    (started.run = true ∧ 1 ≤ started.cfg.P ∧ started.div.toNat ≠ started.cfg.P - 1) ∧
    ((atPos 0 1 2575).run = true ∧ (atPos 0 1 2575).div.toNat = (atPos 0 1 2575).cfg.P - 1) ∧
    State.reset.run = false := by decide +kernel

theorem witness_TickEveryPEdges :
    started.cfg.WF ∧ started.run = true ∧ started.div = 0 ∧ started.inputs = [] ∧ started.clrBusy = false ∧
    1 ≤ 53 ∧ 53 < started.cfg.P ∧ { started with slot := .hostDone }.slot = .hostDone ∧ made.cfg.WF ∧ made.bound = true ∧ made.begun = false ∧
    [EdgeSlot.fresh, .engineDone].all (fun e =>
      let s := presenting 0x1000000000000000#64 { made with slot := e }
      s.clrBusy = false && s.slot ≠ .hostDone && s.inputs.length = 1 &&
        s.inputs.head? = some (.command 0x1000000000000000#64 true true)) = true ∧
    decodeCommand 0x1000000000000000#64 = .ok .begin := by decide +kernel

/-- Beat 29401, the last of the frame. -/
theorem witness_FrameScheduleStep :
    (atPos 435 1 2).cfg.WF ∧ (atPos 435 1 2).run = true ∧ (atPos 435 1 2).chain = builtChain Config.ex ∧
    (∀ o, o < 24 * (atPos 435 1 2).cfg.R → ∃ v, (atPos 435 1 2).fb.read o = some v) ∧
    29401 < 525 * (atPos 435 1 2).cfg.R + 2 ∧ AtBeat (atPos 435 1 2) 29401 ∧
    (atPos 435 1 2).div.toNat + 1 = (atPos 435 1 2).cfg.P :=
  ⟨by decide +kernel, rfl, rfl, fun o h => ⟨_, buffer_of rfl (atPos_fb 435 1 2) o h⟩, by decide +kernel,
    ⟨by decide +kernel, by decide +kernel, by decide +kernel⟩, by decide +kernel⟩

theorem witness_FrameScheduleRun :
    started.Inv ∧ started.run = true ∧ started.inputs = [] ∧ started.clrBusy = false ∧ started.div = 0 ∧
    AtBeat started 0 :=
  ⟨witness_inv_started, rfl, rfl, rfl, rfl, by decide +kernel, by decide +kernel, by decide +kernel⟩

theorem witness_ChainLayout :
    Config.ex.WF ∧ (1 ≤ 216 ∧ 216 ≤ 216) ∧ (219 ≤ 434 ∧ 434 ≤ 434) ∧ 436 ≤ 436 := by decide +kernel

theorem witness_ChainInvariants :
    Config.ex.WF ∧ 435 < 436 ∧ 23 < 24 ∧ ∃ s, Reachable Config.ex s ∧ s.begun = true :=
  ⟨by decide +kernel, by decide, by decide, witness_reachable.imp fun _ h => ⟨h.1, h.2.1⟩⟩

theorem witness_LatchCommands :
    (∃ t, step (presenting 0x5000000000000000#64 { started with fieldLatch := 2 }) = .next t ∧ t.fieldLatch = 0) ∧
    ∃ t, step { started with fieldLatch := 2, inputs := [.reset 0] } = .next t ∧ t.fieldLatch = 0 :=
  ⟨next_of _ (by decide +kernel), next_of _ (by decide +kernel)⟩

theorem witness_LatchWritersOnly :
    (∃ t, step (atPos 217 1 1) = .next t ∧ t.fieldLatch ≠ (atPos 217 1 1).fieldLatch) ∧
    (∃ t, step (atPos 435 1 2) = .next t ∧ t.fieldLatch ≠ (atPos 435 1 2).fieldLatch) ∧
    (∃ t, step (presenting 0x5000000000000002#64 started) = .next t ∧ t.fieldLatch ≠ started.fieldLatch) ∧
    ∃ t, step { started with fieldLatch := 2, inputs := [.reset 0] } = .next t ∧ t.fieldLatch ≠ 2 :=
  ⟨next_of _ (by decide +kernel), next_of _ (by decide +kernel), next_of _ (by decide +kernel),
    next_of _ (by decide +kernel)⟩

theorem witness_LatchLegalUnderDuty :
    HostDuty (atPos 217 1 1) ∧ LatchLegal (atPos 217 1 1) ∧
    ∃ t, step (atPos 217 1 1) = .next t ∧ t.fieldLatch = 1 :=
  ⟨fun _ _ _ _ h => by simp [atPos] at h, .inl (by decide), next_of _ (by decide +kernel)⟩

theorem witness_CreateResult :
    (0 : Byte) = State.reset.cfg.modeId ∧ (1 : Byte) ≠ State.reset.cfg.modeId := by decide +kernel

theorem witness_BeginAnswers :
    State.reset.bound = false ∧ (started.bound = true ∧ started.begun = true) ∧
    (made.bound = true ∧ made.begun = false ∧ made.dmaAvail = false ∧ made.memAvail = false) ∧
    ((State.sample true true made).dmaAvail = true ∧ (State.sample true true made).memAvail = true) := by
  decide +kernel

theorem witness_BeginStarts :
    (State.sample true true made).cfg.WF ∧ (State.sample true true made).bound = true ∧
    (State.sample true true made).begun = false ∧ (State.sample true true made).dmaAvail = true ∧
    (State.sample true true made).memAvail = true := by decide +kernel

theorem witness_StoppedForGood :
    started.stopRun.begun = true ∧ started.stopRun.run = false ∧
    (∃ t, step started.stopRun = .next t ∧ t.div = 0) ∧ ¬ Resets started.stopRun ∧
    (started.stopRun.slot ≠ .hostDone ∧ { started.stopRun with inputs := [.edge] }.inputs.head? = some .edge) :=
  ⟨rfl, rfl, next_of _ (by decide +kernel), (fun ⟨_, _, h⟩ => by cases h), by decide, rfl⟩

theorem witness_CommandErrorsChangeNothing :
    State.reset.rspValid = false ∧
    ∃ t, presentCommand 0x1000000000000000#64 true true State.reset = .next t ∧
      t.rspValid = true ∧ t.rsp.extractLsb' 8 8 ≠ 0 :=
  ⟨rfl, next_of _ (by decide +kernel)⟩

theorem witness_OneResponsePerCommand :
    started.clrBusy = false ∧
    (∃ t, presentCommand 0x7000000000000000#64 true true started = .next t ∧ t.rspValid = true) ∧
    (∃ t, presentCommand 0x4000000000000000#64 true true started = .next t ∧ t.clrBusy = true) ∧
    (Accepts (presenting 0x2000000000000000#64 started) .stop true true ∧
      ∃ t, step (presenting 0x2000000000000000#64 started) = .next t ∧ t.slot = .hostDone) ∧
    (Accepts (presenting 0x1000000000000000#64 made) .begin true true ∧
      ∃ t, step (presenting 0x1000000000000000#64 made) = .next t ∧ t.slot = .fresh ∧ t.run = true) ∧
    (Accepts (presenting 0x2000000000000000#64 { started with slot := .engineDone }) .stop true true ∧
      ∃ t, step (presenting 0x2000000000000000#64 { started with slot := .engineDone }) = .next t ∧ t.slot = .fresh) ∧
    (∃ t, step (presenting 0x2000000000000000#64 { started with slot := .hostDone }) = .next t ∧
      t.div = 1 ∧ t.slot = .fresh ∧ t.run = true) ∧
    (∃ t, step { clearing with slot := .hostDone } = .next t ∧ t.clrBusy = false ∧ t.slot = .hostDone) ∧
    (∃ t, step { clearing with slot := .engineDone } = .next t ∧ t.clrBusy = false ∧ t.slot = .fresh) ∧
    ∃ t, step { clearing with inputs := [.reset 0] } = .next t ∧ t.clrBusy = false ∧ t.slot = .fresh :=
  ⟨rfl, next_of _ (by decide +kernel), next_of _ (by decide +kernel),
    ⟨⟨rfl, by decide, _, rfl, by decide +kernel⟩, next_of _ (by decide +kernel)⟩,
    ⟨⟨rfl, by decide, _, rfl, by decide +kernel⟩, next_of _ (by decide +kernel)⟩,
    ⟨⟨rfl, by decide, _, rfl, by decide +kernel⟩, next_of _ (by decide +kernel)⟩,
    next_of _ (by decide +kernel), next_of _ (by decide +kernel), next_of _ (by decide +kernel),
    next_of _ (by decide +kernel)⟩

theorem witness_StepRunsDecodedInstruction :
    ((atPos 0 1 2575).cfg.WF ∧ (atPos 0 1 2575).inputs = .edge :: [] ∧ (atPos 0 1 2575).run = true ∧
      (atPos 0 1 2575).div.toNat + 1 = (atPos 0 1 2575).cfg.P ∧ (atPos 0 1 2575).didx.toNat < 436 ∧
      (atPos 0 1 2575).chain.read (atPos 0 1 2575).didx.toNat = some 0x18000A1000000001#64 ∧
      decodeDescriptor 0x18000A1000000001#64 = .ok (.xferTtOdd 2576 1)) ∧
    ((presenting 0x2000000000000000#64 made).inputs = .command 0x2000000000000000#64 true true :: [] ∧
      (presenting 0x2000000000000000#64 made).clrBusy = false ∧
      (presenting 0x2000000000000000#64 made).slot ≠ .hostDone ∧
      decodeCommand 0x2000000000000000#64 = .ok .stop) ∧
    ((presenting 0x1000000000000000#64 made).slot ≠ .hostDone ∧
      (presenting 0x1000000000000000#64 made).bound = true ∧ (presenting 0x1000000000000000#64 made).begun = false ∧
      decodeCommand 0x1000000000000000#64 = .ok .begin) ∧
    ({ started with slot := .hostDone, inputs := [.reset 7] }.inputs = .reset 7 :: [] ∧
      { started with slot := .hostDone, inputs := [.reset 7] }.slot = .hostDone) := by decide +kernel

theorem witness_ResetClearsEverything :
    { atPos 1 43 13 with inputs := [.reset 7] }.cfg.WF ∧
    { atPos 1 43 13 with inputs := [.reset 7] }.slot ≠ .hostDone ∧
    { atPos 1 43 13 with inputs := [.reset 7] }.inputs = .reset 7 :: [] := by decide +kernel

theorem witness_ConfigurationIsFixed :
    (∃ t, step started = .next t ∧ t.div = 1) ∧ started.cfg.WF ∧
    [{ Config.ex with P := 0 }, { Config.ex with R := 57 }].all
      (fun c : Config => !decide (State.resetWith c 0).cfg.WF) = true :=
  ⟨next_of _ (by decide +kernel), by decide +kernel, by decide +kernel⟩

theorem witness_InvariantAtReset : Config.ex.WF := by decide +kernel

theorem witness_InvariantKept : started.Inv ∧ ∃ t, step started = .next t ∧ t.div = 1 :=
  ⟨witness_inv_started, next_of _ (by decide +kernel)⟩

theorem witness_PositionInEveryRun : Config.ex.WF ∧ ∃ s, Reachable Config.ex s ∧ s.run = true :=
  ⟨by decide +kernel, witness_reachable.imp fun _ h => ⟨h.1, h.2.2⟩⟩

theorem witness_RunsNeverFaultOrStop : Config.ex.WF ∧ Reachable Config.ex State.reset :=
  ⟨by decide +kernel, .reset 0⟩

/-- Each flag changing: CREATE, BEGIN, STOP, the engine fault, reset. -/
theorem witness_FlagsChangeOnlyAsListed :
    (∃ t, step (presenting 0x0000000000000000#64 State.reset) = .next t ∧ t.bound = true) ∧
    (∃ t, step (presenting 0x1000000000000000#64 made) = .next t ∧ t.begun = true ∧ t.run = true) ∧
    (∃ t, step (presenting 0x2000000000000000#64 started) = .next t ∧ t.run = false) ∧
    (∃ t, step { atPos 3 1 0 with chain := [] } = .next t ∧ t.fault = true ∧ t.run = false) ∧
    ∃ t, step { started.engineFault with inputs := [.reset 0] } = .next t ∧ t.fault = false ∧ t.bound = false :=
  ⟨next_of _ (by decide +kernel), next_of _ (by decide +kernel), next_of _ (by decide +kernel),
    next_of _ (by decide +kernel), next_of _ (by decide +kernel)⟩

theorem witness_ChainWrittenOnlyByBegin :
    ((State.sample true true made).bound = true ∧ (State.sample true true made).begun = false ∧
      (State.sample true true made).dmaAvail = true ∧ (State.sample true true made).memAvail = true) ∧
    (∃ t, step (presenting 0x1000000000000000#64 made) = .next t ∧ t.chain ≠ []) ∧
    ∃ t, step { started with inputs := [.reset 0] } = .next t ∧ t.chain ≠ started.chain :=
  ⟨by decide +kernel, next_of _ (by decide +kernel), next_of _ (by decide +kernel)⟩

theorem witness_DacWrittenOnlyByVideoBeat :
    (∃ t, step (atPos 0 1 2575) = .next t ∧ t.dacOut ≠ (atPos 0 1 2575).dacOut) ∧
    ∃ t, step { started with inputs := [.reset 7] } = .next t ∧ t.dacOut ≠ started.dacOut :=
  ⟨next_of _ (by decide +kernel), next_of _ (by decide +kernel)⟩

/-- The four writers of the buffer. -/
theorem witness_BufferWrittenOnlyByHost :
    (∃ t, step (presenting 0x30000000000000FF#64 started) = .next t ∧ t.fb ≠ started.fb) ∧
    (∃ t, step { clearing with fb := started.fb.write 1343 960 } = .next t ∧ t.fb.read 1343 = some 220) ∧
    (∃ t, step (presenting 0x1000000000000000#64 made) = .next t ∧ t.fb ≠ made.fb) ∧
    ∃ t, step { started with inputs := [.reset 0] } = .next t ∧ t.fb ≠ started.fb :=
  ⟨next_of _ (by decide +kernel), next_of _ (by decide +kernel), next_of _ (by decide +kernel),
    next_of _ (by decide +kernel)⟩

/-- The four transitions of a run. -/
theorem witness_LifeCycleTransitions :
    started.Inv ∧
    (∃ t, step (presenting 0x0000000000000000#64 State.reset) = .next t ∧ t.phase = .bound) ∧
    (∃ t, step (presenting 0x1000000000000000#64 made) = .next t ∧ t.phase = .running) ∧
    (∃ t, step (presenting 0x2000000000000000#64 started) = .next t ∧ t.phase = .stopped) ∧
    ∃ t, step { started with inputs := [.reset 0] } = .next t ∧ t.phase = .unbound :=
  ⟨witness_inv_started, next_of _ (by decide +kernel), next_of _ (by decide +kernel),
    next_of _ (by decide +kernel), next_of _ (by decide +kernel)⟩

end Sys2Proof.Tests
end

/-! The scope's interior window (00_scope.md R9): what SET_PIXEL can change in the frame buffer, and the
invariant that the blanking samples of every row survive every step. -/

namespace Sys2Proof.Machine

/-! ### What leaves the buffer as it is -/

/-- `t` has the configuration, the flag `BEGUN` and the frame buffer of `s`. -/
structure SameBuffer (s t : State) : Prop where
  cfg : t.cfg = s.cfg
  begun : t.begun = s.begun
  fb : t.fb = s.fb

theorem Prepared.sameBuffer {s s' : State} (h : Prepared s s') : SameBuffer s s' :=
  ⟨by rw [h.eq], by rw [h.eq], by rw [h.eq]⟩

theorem State.sampleFor_sameBuffer (i : Instr) (dma mem : Bool) (s : State) :
    SameBuffer s (s.sampleFor i dma mem) := ⟨by simp, by simp, by simp⟩

/-- The engine's step of an edge never writes the frame buffer (R163, R181). -/
theorem clockEdge_sameBuffer {s t : State} (h : clockEdge s = .next t) : SameBuffer s t := by
  rcases clockEdge_cases h with ⟨-, rfl⟩ | ⟨-, -, rfl⟩ | ⟨-, -, hb⟩
  · exact ⟨rfl, rfl, rfl⟩
  · exact ⟨rfl, rfl, rfl⟩
  · rcases beat_cases hb with rfl | ⟨d, i, -, hd, he⟩
    · exact ⟨rfl, rfl, rfl⟩
    · rcases exec_descriptor_cases (decodeDescriptor_isDescriptor hd) he with
        ⟨v, n, rfl⟩ | ⟨b, n, -, rfl⟩ | rfl
      · exact ⟨by simp, by simp, by simp⟩
      · exact ⟨by simp, by simp, by simp⟩
      · exact ⟨rfl, rfl, rfl⟩

/-! ### Where SET_PIXEL stores -/

/-- A coordinate that is not negative is read alike signed and unsigned (R102). -/
theorem toInt_eq_toNat_of_nonneg {x : Reg} (h : 0 ≤ x.toInt) : x.toInt = x.toNat :=
  BitVec.toInt_eq_toNat_of_msb (by simpa [BitVec.msb_eq_toInt] using h)

/-- The clip of SET_PIXEL on the signed coordinates, as bounds on their values (R142, R143). -/
theorem lt_logicalSize_of_not_clipped {c : Config} {rot : Rotation} {x y : Reg}
    (h : clipped c rot x.toInt y.toInt = false) :
    x.toNat < (logicalSize c rot).1 ∧ y.toNat < (logicalSize c rot).2 := by
  simp only [clipped, decide_eq_false_iff_not, not_or, not_lt, not_le] at h
  obtain ⟨hx0, hy0, hx, hy⟩ := h
  rw [toInt_eq_toNat_of_nonneg hx0] at hx
  rw [toInt_eq_toNat_of_nonneg hy0] at hy
  exact ⟨by exact_mod_cast hx, by exact_mod_cast hy⟩

/-- A logical point rotates into the visible window (R143). -/
theorem rotate_fst_lt {c : Config} {rot : Rotation} {x y : Nat}
    (hx : x < (logicalSize c rot).1) (hy : y < (logicalSize c rot).2) : (rotate c rot x y).1 < c.W := by
  cases rot <;> simp only [logicalSize, rotate] at * <;> omega

/-- The column of the store offset (R145). -/
theorem pixelOffset_mod {c : Config} {rot : Rotation} {x y : Nat} (h : c.X + (rotate c rot x y).1 < c.R) :
    pixelOffset c rot x y % c.R = c.X + (rotate c rot x y).1 := by
  rw [pixelOffset, Nat.add_assoc, Nat.add_comm, Nat.add_mul_mod_self_right, Nat.mod_eq_of_lt h]

/-- A window inside the interior puts every store of SET_PIXEL in an interior column (R9, R145). -/
theorem pixelOffset_interior {c : Config} {rot : Rotation} {x y : Reg} (hw : c.WindowInsideInterior)
    (h : clipped c rot x.toInt y.toInt = false) :
    9 ≤ pixelOffset c rot x.toNat y.toNat % c.R ∧ pixelOffset c rot x.toNat y.toNat % c.R ≤ c.R - 2 := by
  obtain ⟨hx, hy⟩ := lt_logicalSize_of_not_clipped h
  obtain ⟨hX, hXW⟩ := hw
  have hrot := rotate_fst_lt hx hy
  rw [pixelOffset_mod (by omega)]
  omega

/-- SET_PIXEL leaves the buffer or stores one quantised sample at the offset of its unclipped point (R142). -/
theorem exec_setPixel_fb {rot : Rotation} {x y : Reg} {b : Byte} {s t : State}
    (h : exec (.setPixel rot x y b) s = .next t) :
    t.fb = s.fb ∨ (clipped s.cfg rot x.toInt y.toInt = false ∧
      t.fb = s.fb.write (pixelOffset s.cfg rot x.toNat y.toNat) (quantize s.cfg b)) := by
  rcases exec_command_cases rfl h with ⟨st, d, rfl⟩ | ⟨hi, -⟩ | ⟨hi, -⟩ | ⟨hi, -⟩ |
    ⟨_, _, _, _, hi, -, hc, -, rfl⟩ | ⟨hi, -⟩ | ⟨_, hi, -⟩
  case inr.inr.inr.inr.inl => cases hi; exact .inr ⟨hc, rfl⟩
  case inl => exact .inl rfl
  all_goals cases hi

/-- Settles O17: the store of an unclipped point is in an interior column, and no other address changes. -/
theorem setPixelInsideInterior : Obligations.SetPixelInsideInterior := by
  intro s t rot x y b _ hw h o ho
  rcases exec_setPixel_fb h with hfb | ⟨hc, hfb⟩
  · exact absurd (congrArg (·.read o) hfb) ho
  · have hoff : pixelOffset s.cfg rot x.toNat y.toNat = o := by
      by_contra hne
      exact ho (by rw [hfb, Memory.read_write_other _ _ hne])
    exact hoff ▸ pixelOffset_interior hw hc

/-! ### The blanking samples -/

theorem BlankingIntact.of_sameBuffer {s t : State} (h : BlankingIntact s) (e : SameBuffer s t) :
    BlankingIntact t := by
  intro hb o
  rw [e.cfg, e.fb]
  exact h (e.begun ▸ hb) o

/-- A store keeps the blanking samples if it puts an interior sample or what CLEAR would put there. -/
theorem BlankingIntact.write {s : State} {a : Nat} {v : Sample} (h : BlankingIntact s)
    (hv : (9 ≤ a % s.cfg.R ∧ a % s.cfg.R < s.cfg.R - 1) ∨ v = activeSample s.cfg (a % s.cfg.R)) :
    BlankingIntact { s with fb := s.fb.write a v } := by
  intro hb o ho hcol
  change (s.fb.write a v).read o = some (activeSample s.cfg (o % s.cfg.R))
  by_cases hao : a = o
  · subst hao
    rcases hv with ⟨hl, hr⟩ | rfl
    · simp only at hcol
      omega
    · exact Memory.read_write_same ..
  · rw [Memory.read_write_other _ _ hao]
    exact h hb o ho hcol

/-- BEGIN fills every row with `ACTIVE_LINE` (R204). -/
theorem State.beginSuccess_blankingIntact (s : State) : BlankingIntact s.beginSuccess :=
  fun _ o ho _ => (blackFrame_read s.cfg o).trans (if_pos ho)

/-- Before the first successful BEGIN there is no buffer to keep (R31). -/
theorem State.resetEdge_blankingIntact (dac : Sample) (s : State) : BlankingIntact (s.resetEdge dac) :=
  fun hb => Bool.noConfusion hb

/-- A store of a CLEAR puts the sample of `ACTIVE_LINE` at its column (R149). -/
theorem BlankingIntact.clearStore {s : State} (h : BlankingIntact s) (k : Nat) :
    BlankingIntact (s.clearStore k) := by
  rcases s.clearStore_cases k with ⟨-, e⟩ | ⟨-, -, e⟩ | ⟨-, o, -, e⟩ <;> rw [e]
  · exact h
  · exact h.of_sameBuffer ⟨by simp, by simp, by simp⟩
  · exact (h.write (a := o) (.inr rfl)).of_sameBuffer ⟨by simp, by simp, by simp⟩

/-- Of the host commands BEGIN fills the whole buffer and SET_PIXEL stores in the interior; the others leave
the buffer, CLEAR to the stores that follow (R9, R142, R146, R204). -/
theorem BlankingIntact.of_exec_command {i : Instr} {s t : State} (h : BlankingIntact s)
    (hw : s.cfg.WindowInsideInterior) (hi : i.isDescriptor = false) (he : exec i s = .next t) :
    BlankingIntact t := by
  rcases exec_command_cases hi he with ⟨st, d, rfl⟩ | ⟨-, rfl⟩ | ⟨-, -, -, -, -, rfl⟩ | ⟨-, rfl⟩ |
    ⟨rot, x, y, b, -, -, hc, -, rfl⟩ | ⟨-, -, rfl⟩ | ⟨v, -, rfl⟩
  case inr.inr.inl => exact s.beginSuccess_blankingIntact.of_sameBuffer ⟨rfl, rfl, rfl⟩
  case inr.inr.inr.inr.inl =>
    have hcol := pixelOffset_interior hw hc
    exact (h.write (.inl ⟨hcol.1, by omega⟩)).of_sameBuffer ⟨rfl, rfl, rfl⟩
  all_goals exact h.of_sameBuffer ⟨rfl, rfl, rfl⟩

/-- Whatever word the host presents (R12, R220). -/
theorem BlankingIntact.of_presentCommand {w : Word} {dma mem : Bool} {s t : State} (h : BlankingIntact s)
    (hw : s.cfg.WindowInsideInterior) (hp : presentCommand w dma mem s = .next t) : BlankingIntact t := by
  rcases presentCommand_cases hp with ⟨-, rfl⟩ | ⟨-, i, hd, he⟩ | ⟨-, -, rfl⟩
  · exact h
  · exact (h.of_sameBuffer (s.sampleFor_sameBuffer i dma mem)).of_exec_command (by simpa using hw)
      (decodeCommand_isCommand hd) he
  · exact h.of_sameBuffer ⟨rfl, rfl, rfl⟩

/-- Settles O18, by the four moves a step can make: the engine never stores, and every store of the host is
an interior sample or what CLEAR puts there. -/
theorem blankingSurvivesEveryStep : Obligations.BlankingSurvivesEveryStep := by
  intro s t hw h hstep
  obtain ⟨-, s', hs', hmove⟩ := step_cases hstep
  have h' : BlankingIntact s' := h.of_sameBuffer hs'.sameBuffer
  rcases hmove with ⟨hedge, -⟩ | ⟨-, w, dma, mem, -, hcmd⟩ | ⟨k, rfl⟩ | ⟨-, dac, -, rfl⟩
  · exact h'.of_sameBuffer (clockEdge_sameBuffer hedge)
  · exact h'.of_presentCommand (hs'.sameBuffer.cfg ▸ hw) hcmd
  · exact h'.clearStore k
  · exact s'.resetEdge_blankingIntact dac

end Sys2Proof.Machine

/-! Facts about descriptor words and tables that statements about runs share: a word that decodes is the
encoding of its instruction, its count and source offset stay inside its source (30_encoding.md R95, R98;
20_memory.md R61), the lengths of the timing tables (40_timing_tables.md R129) and the levels of the samples
the host can store (41_frame_buffer.md R141). -/

namespace Sys2Proof

/-- A descriptor word is its four 16-bit fields (R92). -/
theorem descriptor_append_fields (d : Word) : dTop d ++ dCount d ++ dSrcoff d ++ dNext d = d := by
  have h1 : dTop d ++ dCount d = d.extractLsb' 32 32 :=
    BitVec.extractLsb'_append_extractLsb'_eq_extractLsb' rfl
  have h2 : d.extractLsb' 32 32 ++ dSrcoff d = d.extractLsb' 16 48 :=
    BitVec.extractLsb'_append_extractLsb'_eq_extractLsb' rfl
  have h3 : d.extractLsb' 16 48 ++ dNext d = d.extractLsb' 0 64 :=
    BitVec.extractLsb'_append_extractLsb'_eq_extractLsb' rfl
  rw [h1, h2, h3]
  exact BitVec.extractLsb'_eq_self

/-- A word whose row is selected is the encoding of what it decodes to (R94, R98). -/
theorem encode_of_decodeDescriptor {d : Word} {i : Instr} (h : decodeDescriptor d = .ok i) :
    encode i = d := by
  have hd := descriptor_append_fields d
  unfold decodeDescriptor at h
  split_ifs at h with h1 h2 h3 h4 h5
  · cases h; rw [h1.1, h1.2] at hd; exact hd
  · cases h; rw [h2.1, h2.2] at hd; exact hd
  · cases h; rw [h3] at hd; exact hd
  · cases h; rw [h4.1, h4.2.1, h4.2.2] at hd; exact hd
  · cases h; rw [h5.1, h5.2.1, h5.2.2] at hd; exact hd

/-- Encoding a descriptor selects its row (R98). -/
theorem decodeDescriptor_encode {i : Instr} (h : i.isDescriptor = true) :
    decodeDescriptor (encode i) = .ok i := by
  cases i with
  | xferTtOdd | xferTtEven | xferRow | markOdd | markEven => simp [encode, decodeDescriptor]
  | _ => cases h

/-- What R97 accepts: the encodings of the well-formed descriptors. -/
theorem decodeD_ok {c : Config} {d : Word} {i : Instr} (h : decodeD c d = .ok i) :
    i.isDescriptor = true ∧ i.wellFormed c = true ∧ d = encode i := by
  obtain ⟨hd, hwf⟩ := (decodeD_ok_iff c d i).mp h
  exact ⟨Machine.decodeDescriptor_isDescriptor hd, hwf, (encode_of_decodeDescriptor hd).symm⟩

namespace Machine

/-- The successor of a well-formed descriptor is in the chain (R95). -/
theorem dNext_lt_of_decodeD {c : Config} {d : Word} {i : Instr} (h : decodeD c d = .ok i) :
    (dNext d).toNat < numDescriptors := by
  obtain ⟨hi, hwf, rfl⟩ := decodeD_ok h
  cases i with
  | xferTtOdd | xferTtEven | xferRow | markOdd | markEven => simp_all [encode, Instr.wellFormed]
  | _ => cases hi

/-- Under a well-formed configuration a well-formed descriptor has at least one beat, and every beat of it
reads inside the source it selects (R38, R61, R95). -/
theorem decodeD_extent {c : Config} {d : Word} {i : Instr} (hc : c.WF) (h : decodeD c d = .ok i) :
    1 ≤ (dCount d).toNat ∧ (dSrcoff d).toNat + (dCount d).toNat < 2 ^ 16 ∧
      ∀ k, k < (dCount d).toNat → InSource c d ((dSrcoff d).toNat + k) := by
  obtain ⟨-, ⟨-, hR, hR'⟩, -⟩ := hc
  obtain ⟨hi, hwf, rfl⟩ := decodeD_ok h
  cases i with
  | xferTtOdd count next | xferTtEven count next =>
    obtain ⟨hcount, -⟩ := of_decide_eq_true hwf
    simp only [CountOk, Config.lenOdd, Config.lenEven] at hcount
    simp [encode, InSource, Config.lenOdd, Config.lenEven, hcount]
    omega
  | xferRow count srcoff next =>
    obtain ⟨hcount, ⟨hmod, hrow⟩, -⟩ := of_decide_eq_true hwf
    have hend : srcoff.toNat + c.R ≤ 24 * c.R := by
      have := Nat.div_add_mod srcoff.toNat c.R
      have : c.R * (srcoff.toNat / c.R) + c.R ≤ c.R * 24 := by
        rw [← Nat.mul_succ]; exact Nat.mul_le_mul_left _ hrow
      omega
    simp only [CountOk] at hcount
    simp [encode, InSource, Config.fbSize, hcount]
    exact ⟨by omega, by omega, fun k hk => by simp only [height]; omega⟩
  | markOdd next | markEven next => simp [encode, InSource]
  | _ => cases hi

/-! ### Tables and levels -/

theorem length_rep {α : Type} (n : Nat) (l : List α) : (rep n l).length = n * l.length := by
  induction n with
  | zero => simp [rep]
  | succ n ih => simp [rep, ih, Nat.succ_mul, Nat.add_comm]

theorem length_blankLine {c : Config} (hc : c.WF) : (blankLine c).length = c.R := by
  obtain ⟨-, ⟨-, hR, -⟩, -⟩ := hc
  simp [blankLine, lineSync]
  omega

theorem length_ttOdd {c : Config} (hc : c.WF) : (ttOdd c).length = c.lenOdd := by
  have hb := length_blankLine hc
  obtain ⟨-, ⟨hR, -, -⟩, -, -, ⟨⟨he, -⟩, -⟩, ⟨⟨hs, -⟩, -⟩⟩ := hc
  simp only [ttOdd, List.length_append, length_rep, hb, he, hs, Config.half, Config.lenOdd]
  omega

theorem length_ttEven {c : Config} (hc : c.WF) : (ttEven c).length = c.lenEven := by
  have hb := length_blankLine hc
  obtain ⟨-, ⟨hR, hR', -⟩, -, -, ⟨⟨he, -⟩, -⟩, ⟨⟨hs, -⟩, -⟩⟩ := hc
  simp only [ttEven, mixedLine, List.length_append, List.length_replicate, length_rep, hb, he, hs,
    Config.half, Config.lenEven, lineSync]
  omega

/-- What CLEAR and BEGIN store is a level of the signal (R141). -/
theorem activeSample_mem_levels {c : Config} (hc : c.WF) (col : Nat) :
    c.sync.toNat ≤ (activeSample c col).toNat ∧ (activeSample c col).toNat ≤ c.white.toNat := by
  obtain ⟨-, -, -, hl, -⟩ := hc
  unfold activeSample
  split_ifs <;> omega

/-- What SET_PIXEL stores is a level of the signal (R141, R144). -/
theorem quantize_mem_levels {c : Config} (hc : c.WF) (b : Byte) :
    c.sync.toNat ≤ (quantize c b).toNat ∧ (quantize c b).toNat ≤ c.white.toNat := by
  obtain ⟨-, -, -, hl, -⟩ := hc
  have hq : b.toNat * c.span / 255 ≤ c.span :=
    Nat.div_le_of_le_mul (Nat.mul_le_mul_right _ (by have := b.isLt; omega))
  have hw := c.white.isLt
  unfold Config.span at hq
  rw [quantize, BitVec.toNat_ofNat, Nat.mod_eq_of_lt (by unfold Config.span; omega)]
  unfold Config.span
  omega

/-! ### The built chain -/

/-- The row descriptors show the rows of the picture (R162). -/
theorem rowOf_lt {i : Nat} (hi : i < idxMarkEven) : rowOf i < height := by
  simp only [rowOf, idxMarkOdd, idxEvenRow0, repeatFactor, height, idxMarkEven] at *
  split_ifs <;> omega

/-- The start of an existing row is a legal source offset (R95). -/
theorem rowOk_ofNat {c : Config} (hc : c.WF) {row : Nat} (h : row < height) :
    RowOk c (BitVec.ofNat 16 (row * c.R)) := by
  obtain ⟨-, ⟨-, hR, hR'⟩, -⟩ := hc
  have hle : row * c.R ≤ 23 * 1394 := Nat.mul_le_mul (Nat.le_of_lt_succ h) hR'
  have htoNat : (BitVec.ofNat 16 (row * c.R)).toNat = row * c.R := by
    rw [BitVec.toNat_ofNat]
    omega
  rw [RowOk, htoNat, Nat.mul_div_cancel row (by omega)]
  exact ⟨Nat.mul_mod_left _ _, h⟩

/-- Every descriptor of the chain is well-formed (R167). -/
theorem chainInstr_wellFormed {c : Config} (hc : c.WF) {i : Nat} (hi : i < numDescriptors) :
    (chainInstr c i).isDescriptor = true ∧ (chainInstr c i).wellFormed c = true := by
  have hnext : NextOk (BitVec.ofNat 16 ((i + 1) % numDescriptors)) := by
    simp only [NextOk, numDescriptors, BitVec.toNat_ofNat]
    omega
  have hcount : ∀ n, n ≤ 47 → CountOk (BitVec.ofNat 16 (n * c.R)) (n * c.R) := fun n hn => by
    obtain ⟨-, ⟨-, -, hR⟩, -⟩ := hc
    have : n * c.R ≤ 47 * 1394 := Nat.mul_le_mul hn hR
    rw [CountOk, BitVec.toNat_ofNat]
    omega
  unfold chainInstr
  split_ifs with h0 hodd htt heven
  · exact ⟨rfl, decide_eq_true ⟨hcount 46 (by decide), hnext⟩⟩
  · exact ⟨rfl, decide_eq_true hnext⟩
  · exact ⟨rfl, decide_eq_true ⟨hcount 47 (by decide), hnext⟩⟩
  · exact ⟨rfl, decide_eq_true hnext⟩
  · have hrow := rowOk_ofNat hc (rowOf_lt (i := i) (by simp only [numDescriptors, idxMarkEven] at *; omega))
    have hR := hcount 1 (by decide)
    rw [Nat.one_mul] at hR
    exact ⟨rfl, decide_eq_true ⟨hR, hrow, hnext⟩⟩

/-- Every word of the built chain decodes to its descriptor (R165, R167). -/
theorem decodeD_chainBuild {c : Config} (hc : c.WF) {i : Nat} (hi : i < numDescriptors) :
    decodeD c (chainBuild c i) = .ok (chainInstr c i) := by
  obtain ⟨hdesc, hwf⟩ := chainInstr_wellFormed hc hi
  exact (decodeD_ok_iff _ _ _).mpr ⟨decodeDescriptor_encode hdesc, hwf⟩

end Machine
end Sys2Proof

/-! Everything one step can do, as named effects on the state before it: the beat by the fields of its
descriptor (42_descriptor_chain.md R163), the acceptances, the store of a CLEAR and the reset. A statement
about who may change an element of the state (10_state.md) is a case analysis of `StepEffect`. -/

namespace Sys2Proof.Machine

/-! ### One beat -/

@[simp] theorem videoBeat_none (ok : Bool) (n : Reg) (s : State) :
    videoBeat ok none n s = .next s.engineFault := by cases ok <;> rfl

@[simp] theorem videoBeat_some (v : Sample) (n : Reg) (s : State) :
    videoBeat true (some v) n s = .next ((s.dacWrite v).endBeat true n) := rfl

@[simp] theorem videoBeat_false (v : Option Sample) (n : Reg) (s : State) :
    videoBeat false v n s = .next s.engineFault := rfl

@[simp] theorem latchBeat_true (b : Byte) (n : Reg) (s : State) :
    latchBeat true b n s = .next ((s.latchWrite b).endBeat false n) := rfl

@[simp] theorem latchBeat_false (b : Byte) (n : Reg) (s : State) :
    latchBeat false b n s = .next s.engineFault := rfl

/-- The meanings of the five kinds by the kind of beat (R131, R132, R147, R191, R192). -/
theorem exec_xferTtOdd (count next : Reg) (s : State) : exec (.xferTtOdd count next) s =
    videoBeat (Instr.wellFormed s.cfg (.xferTtOdd count next)) (ttRead s.cfg .odd s.sptr.toNat) next s := rfl

theorem exec_xferTtEven (count next : Reg) (s : State) : exec (.xferTtEven count next) s =
    videoBeat (Instr.wellFormed s.cfg (.xferTtEven count next)) (ttRead s.cfg .even s.sptr.toNat) next s := rfl

theorem exec_xferRow (count srcoff next : Reg) (s : State) : exec (.xferRow count srcoff next) s =
    videoBeat (Instr.wellFormed s.cfg (.xferRow count srcoff next)) (fbRead s s.sptr.toNat) next s := rfl

theorem exec_markOdd (next : Reg) (s : State) : exec (.markOdd next) s =
    latchBeat (Instr.wellFormed s.cfg (.markOdd next)) oddMarker next s := rfl

theorem exec_markEven (next : Reg) (s : State) : exec (.markEven next) s =
    latchBeat (Instr.wellFormed s.cfg (.markEven next)) evenMarker next s := rfl

/-- The source element each kind's word selects (R163, R94). -/
@[simp] theorem sourceElement_xferTtOdd (s : State) (count next : Reg) :
    sourceElement s (encode (.xferTtOdd count next)) = ttRead s.cfg .odd s.sptr.toNat := by
  simp [sourceElement, encode]

@[simp] theorem sourceElement_xferTtEven (s : State) (count next : Reg) :
    sourceElement s (encode (.xferTtEven count next)) = ttRead s.cfg .even s.sptr.toNat := by
  simp [sourceElement, encode]

@[simp] theorem sourceElement_xferRow (s : State) (count srcoff next : Reg) :
    sourceElement s (encode (.xferRow count srcoff next)) = fbRead s s.sptr.toNat := by
  simp [sourceElement, encode]

@[simp] theorem sourceElement_markOdd (s : State) (next : Reg) :
    sourceElement s (encode (.markOdd next)) = some 1 := by
  simp [sourceElement, encode]

@[simp] theorem sourceElement_markEven (s : State) (next : Reg) :
    sourceElement s (encode (.markEven next)) = some 2 := by
  simp [sourceElement, encode]

/-- The destination each kind's word selects (R163, R94). -/
@[simp] theorem writeDestination_xferTtOdd (v : Sample) (s : State) (count next : Reg) :
    writeDestination (encode (.xferTtOdd count next)) v s = s.dacWrite v := by
  simp [writeDestination, encode]

@[simp] theorem writeDestination_xferTtEven (v : Sample) (s : State) (count next : Reg) :
    writeDestination (encode (.xferTtEven count next)) v s = s.dacWrite v := by
  simp [writeDestination, encode]

@[simp] theorem writeDestination_xferRow (v : Sample) (s : State) (count srcoff next : Reg) :
    writeDestination (encode (.xferRow count srcoff next)) v s = s.dacWrite v := by
  simp [writeDestination, encode]

@[simp] theorem writeDestination_markOdd (v : Sample) (s : State) (next : Reg) :
    writeDestination (encode (.markOdd next)) v s = s.latchWrite (v.setWidth 8) := by
  simp [writeDestination, encode]

@[simp] theorem writeDestination_markEven (v : Sample) (s : State) (next : Reg) :
    writeDestination (encode (.markEven next)) v s = s.latchWrite (v.setWidth 8) := by
  simp [writeDestination, encode]

/-- A descriptor that is not well-formed performs no beat (R222). -/
theorem exec_of_not_wellFormed {i : Instr} {s : State} (hi : i.isDescriptor = true)
    (hwf : i.wellFormed s.cfg = false) : exec i s = .next s.engineFault := by
  cases i with
  | xferTtOdd => rw [exec_xferTtOdd, hwf, videoBeat_false]
  | xferTtEven => rw [exec_xferTtEven, hwf, videoBeat_false]
  | xferRow => rw [exec_xferRow, hwf, videoBeat_false]
  | markOdd => rw [exec_markOdd, hwf, latchBeat_false]
  | markEven => rw [exec_markEven, hwf, latchBeat_false]
  | _ => cases hi

/-- A beat whose source element has no value is the engine fault (R29, R61, U1). -/
theorem exec_of_source_none {d : Word} {i : Instr} {s : State} (hD : decodeD s.cfg d = .ok i)
    (hv : sourceElement s d = none) : exec i s = .next s.engineFault := by
  obtain ⟨hi, -, rfl⟩ := decodeD_ok hD
  cases i with
  | xferTtOdd =>
    rw [sourceElement_xferTtOdd] at hv
    rw [exec_xferTtOdd, hv, videoBeat_none]
  | xferTtEven =>
    rw [sourceElement_xferTtEven] at hv
    rw [exec_xferTtEven, hv, videoBeat_none]
  | xferRow =>
    rw [sourceElement_xferRow] at hv
    rw [exec_xferRow, hv, videoBeat_none]
  | markOdd => rw [sourceElement_markOdd] at hv; cases hv
  | markEven => rw [sourceElement_markEven] at hv; cases hv
  | _ => cases hi

/-- The beat of a well-formed descriptor whose source element is `v`, by the fields of the word (R163). -/
theorem exec_of_source_some {d : Word} {i : Instr} {v : Sample} {s : State} (hD : decodeD s.cfg d = .ok i)
    (hv : sourceElement s d = some v) :
    exec i s = .next ((writeDestination d v s).endBeat (dSrcinc d = 1) (dNext d)) := by
  obtain ⟨hi, hwf, rfl⟩ := decodeD_ok hD
  cases i with
  | xferTtOdd =>
    rw [sourceElement_xferTtOdd] at hv
    rw [writeDestination_xferTtOdd]
    simp [exec_xferTtOdd, hwf, hv, encode]
  | xferTtEven =>
    rw [sourceElement_xferTtEven] at hv
    rw [writeDestination_xferTtEven]
    simp [exec_xferTtEven, hwf, hv, encode]
  | xferRow =>
    rw [sourceElement_xferRow] at hv
    rw [writeDestination_xferRow]
    simp [exec_xferRow, hwf, hv, encode]
  | markOdd =>
    rw [sourceElement_markOdd] at hv
    cases hv
    rw [writeDestination_markOdd]
    simp [exec_markOdd, hwf, encode]
  | markEven =>
    rw [sourceElement_markEven] at hv
    cases hv
    rw [writeDestination_markEven]
    simp [exec_markEven, hwf, encode]
  | _ => cases hi

/-- A video kind (R94). -/
def IsVideo (i : Instr) : Prop := ∃ c n, i = .xferTtOdd c n ∨ i = .xferTtEven c n ∨ ∃ o, i = .xferRow c o n

/-- What the beat of a well-formed descriptor writes: a video kind the DAC, a MARK kind its marker to the
latch (R94, R163). -/
theorem writeDestination_cases {c : Config} {d : Word} {i : Instr} {v : Sample} {s : State}
    (hD : decodeD c d = .ok i) (hv : sourceElement s d = some v) (u : State) :
    (IsVideo i ∧ writeDestination d v u = u.dacWrite v) ∨
    ((∃ n, i = .markOdd n) ∧ writeDestination d v u = u.latchWrite oddMarker) ∨
    ((∃ n, i = .markEven n) ∧ writeDestination d v u = u.latchWrite evenMarker) := by
  obtain ⟨hi, -, rfl⟩ := decodeD_ok hD
  cases i with
  | xferTtOdd count next => exact .inl ⟨⟨count, next, .inl rfl⟩, by simp⟩
  | xferTtEven count next => exact .inl ⟨⟨count, next, .inr (.inl rfl)⟩, by simp⟩
  | xferRow count srcoff next => exact .inl ⟨⟨count, next, .inr (.inr ⟨srcoff, rfl⟩)⟩, by simp⟩
  | markOdd next =>
    rw [sourceElement_markOdd] at hv
    cases hv
    exact .inr (.inl ⟨⟨next, rfl⟩, by simp⟩)
  | markEven next =>
    rw [sourceElement_markEven] at hv
    cases hv
    exact .inr (.inr ⟨⟨next, rfl⟩, by simp⟩)
  | _ => cases hi

/-- A well-formed current descriptor is executed (R163). -/
theorem beat_of_current {d : Word} {i : Instr} {s : State} (hf : fetchDescriptor s = some d)
    (hD : decodeD s.cfg d = .ok i) : beat s = exec i s := by
  simp only [beat, hf, ((decodeD_ok_iff _ _ _).mp hD).1]

/-- Everything a beat can do: write the source element of the current descriptor to its destination and move
on, or the engine fault, for want of a well-formed descriptor or of a source element (R163, R222, U1). -/
theorem beat_outcomes {s t : State} (h : beat s = .next t) :
    (∃ d i v, fetchDescriptor s = some d ∧ decodeD s.cfg d = .ok i ∧ sourceElement s d = some v ∧
      t = (writeDestination d v s).endBeat (dSrcinc d = 1) (dNext d)) ∨
    (((∀ i, ¬ Current s i) ∨ ∃ d, fetchDescriptor s = some d ∧ sourceElement s d = none) ∧
      t = s.engineFault) := by
  by_cases hcur : ∃ i, Current s i
  · obtain ⟨i, d, hf, hD⟩ := hcur
    rw [beat_of_current hf hD] at h
    cases hv : sourceElement s d with
    | some v =>
      rw [exec_of_source_some hD hv] at h
      cases h
      exact .inl ⟨d, i, v, hf, hD, hv, rfl⟩
    | none =>
      rw [exec_of_source_none hD hv] at h
      cases h
      exact .inr ⟨.inr ⟨d, hf, hv⟩, rfl⟩
  · refine .inr ⟨.inl (not_exists.mp hcur), ?_⟩
    rcases beat_cases h with ht | ⟨d, i, hf, hd, he⟩
    · exact ht
    · have hwf : i.wellFormed s.cfg = false := by
        by_contra hne
        exact hcur ⟨i, d, hf, (decodeD_ok_iff _ _ _).mpr ⟨hd, by simpa using hne⟩⟩
      rw [exec_of_not_wellFormed (decodeDescriptor_isDescriptor hd) hwf] at he
      cases he
      rfl

/-! ### One step -/

/-- What a step sets before its move, none of it an element the rules of 10_state.md speak of: the moves left,
the sharing of the edge, the count of draws, the pulses and the sampled inputs. -/
structure Setting where
  inputs : List Input
  slot : EdgeSlot
  draws : Nat
  rspValid : Bool
  dacWr : Bool
  pixTick : Bool
  dmaAvail : Bool
  memAvail : Bool

/-- `s` with these parts set. -/
def State.withSetting (s : State) (x : Setting) : State :=
  { s with
    inputs := x.inputs, slot := x.slot, draws := x.draws, rspValid := x.rspValid, dacWr := x.dacWr,
    pixTick := x.pixTick, dmaAvail := x.dmaAvail, memAvail := x.memAvail }

section
variable (s : State) (x : Setting)

@[simp] theorem State.withSetting_cfg : (s.withSetting x).cfg = s.cfg := rfl
@[simp] theorem State.withSetting_bound : (s.withSetting x).bound = s.bound := rfl
@[simp] theorem State.withSetting_begun : (s.withSetting x).begun = s.begun := rfl
@[simp] theorem State.withSetting_run : (s.withSetting x).run = s.run := rfl
@[simp] theorem State.withSetting_fault : (s.withSetting x).fault = s.fault := rfl
@[simp] theorem State.withSetting_dacOut : (s.withSetting x).dacOut = s.dacOut := rfl
@[simp] theorem State.withSetting_fieldLatch : (s.withSetting x).fieldLatch = s.fieldLatch := rfl
@[simp] theorem State.withSetting_fb : (s.withSetting x).fb = s.fb := rfl
@[simp] theorem State.withSetting_clrBusy : (s.withSetting x).clrBusy = s.clrBusy := rfl
@[simp] theorem State.withSetting_clrPend : (s.withSetting x).clrPend = s.clrPend := rfl
@[simp] theorem State.withSetting_trace : (s.withSetting x).trace = s.trace := rfl
@[simp] theorem State.withSetting_inputs : (s.withSetting x).inputs = x.inputs := rfl

end

/-- The setting a state has. -/
def State.setting (s : State) : Setting where
  inputs := s.inputs
  slot := s.slot
  draws := s.draws
  rspValid := s.rspValid
  dacWr := s.dacWr
  pixTick := s.pixTick
  dmaAvail := s.dmaAvail
  memAvail := s.memAvail

/-- A state prepared for a move differs in its setting alone. -/
theorem Prepared.eq_withSetting {s s' : State} (h : Prepared s s') : s' = s.withSetting s'.setting := by
  have hdma : s'.dmaAvail = s.dmaAvail := by rw [h.eq]
  have hmem : s'.memAvail = s.memAvail := by rw [h.eq]
  refine h.eq.trans ?_
  simp only [State.withSetting, State.setting, hdma, hmem]

/-- So does one in which a command sampled the availability inputs (R203). -/
theorem State.sampleFor_eq_withSetting (i : Instr) (dma mem : Bool) (s : State) (x : Setting) :
    (s.withSetting x).sampleFor i dma mem =
      s.withSetting ((s.withSetting x).sampleFor i dma mem).setting := by
  unfold State.sampleFor
  split <;> rfl

/-- The states one step can lead to from `s`, by the move that leads there; `x` is the setting
in which the move is made. -/
inductive StepEffect (s : State) (x : Setting) : State → Prop
  /-- the engine does not run, or the port is not ready (R12, R181) -/
  | idle : StepEffect s x (s.withSetting x)
  /-- an edge that is no pixel tick (R181) -/
  | count (hrun : s.run = true) (hdiv : s.div.toNat + 1 ≠ s.cfg.P) : StepEffect s x (s.withSetting x).countEdge
  /-- a pixel tick and its beat (R163) -/
  | beat {d : Word} {i : Instr} {v : Sample} (htick : Ticks s) (hf : fetchDescriptor s = some d)
      (hD : decodeD s.cfg d = .ok i) (hv : sourceElement s d = some v) :
      StepEffect s x
        ((writeDestination d v (s.withSetting x).tickStart).endBeat (dSrcinc d = 1) (dNext d))
  /-- a pixel tick and the engine fault (R222, U1) -/
  | fault (htick : Ticks s)
      (hbad : (∀ i, ¬ Current s i) ∨ ∃ d, fetchDescriptor s = some d ∧ sourceElement s d = none) :
      StepEffect s x (s.withSetting x).tickStart.engineFault
  /-- a command that only answers (R216, R217) -/
  | answer (status data : Byte) : StepEffect s x ((s.withSetting x).respond status data)
  /-- CREATE with the supported mode (R201) -/
  | create {dma mem : Bool} (hacc : Accepts s (.create s.cfg.modeId) dma mem) :
      StepEffect s x ((s.withSetting x).setBound.respond statusOk 0)
  /-- the first successful BEGIN (R204) -/
  | begin (hacc : Accepts s .begin true true) (hbound : s.bound = true) (hbegun : s.begun = false) :
      StepEffect s x ((s.withSetting x).beginSuccess.respond statusOk 0x01)
  /-- STOP (R207) -/
  | stop {dma mem : Bool} (hacc : Accepts s .stop dma mem) :
      StepEffect s x ((s.withSetting x).stopRun.respond statusOk 0)
  /-- SET_PIXEL on a point inside the picture (R142) -/
  | setPixel {rot : Rotation} {px py : Reg} {b : Byte} {dma mem : Bool}
      (hacc : Accepts s (.setPixel rot px py b) dma mem) (hbegun : s.begun = true)
      (hclip : clipped s.cfg rot px.toInt py.toInt = false)
      (hinside : pixelOffset s.cfg rot px.toNat py.toNat < s.cfg.fbSize) :
      StepEffect s x (State.respond statusOk 0
        { s.withSetting x with
          fb := s.fb.write (pixelOffset s.cfg rot px.toNat py.toNat) (quantize s.cfg b) })
  /-- the acceptance of a CLEAR (R146) -/
  | clear {dma mem : Bool} (hacc : Accepts s .clear dma mem) (hbegun : s.begun = true) :
      StepEffect s x (s.withSetting x).clearStart
  /-- SET_FIELD_HINT (R193) -/
  | setFieldHint {v : Byte} {dma mem : Bool} (hacc : Accepts s (.setFieldHint v) dma mem) :
      StepEffect s x (((s.withSetting x).latchWrite v).respond statusOk 0)
  /-- a store of a CLEAR (R149) -/
  | clearStore (k : Nat) : StepEffect s x ((s.withSetting x).clearStore k)
  /-- reset (R245) -/
  | reset (hreset : Resets s) (dac : Sample) : StepEffect s x ((s.withSetting x).resetEdge dac)

/-- The engine's step of an edge, as an effect. -/
theorem clockEdge_effect {s t : State} {x : Setting} (h : clockEdge (s.withSetting x) = .next t)
    (hin : s.inputs = [] ∨ s.inputs.head? = some .edge ∨ ∃ i, s.inputs.head? = some i ∧ s.waits i = true) :
    StepEffect s x t := by
  rcases clockEdge_cases h with ⟨-, rfl⟩ | ⟨hrun, hdiv, rfl⟩ | ⟨hrun, hdiv, hbeat⟩
  · exact .idle
  · exact .count hrun hdiv
  · rcases beat_outcomes hbeat with ⟨d, i, v, hf, hD, hv, rfl⟩ | ⟨hbad, rfl⟩
    · exact .beat ⟨hrun, hdiv, hin⟩ hf hD hv
    · exact .fault ⟨hrun, hdiv, hin⟩ hbad

/-- The meaning of an accepted command, as an effect. -/
theorem exec_command_effect {i : Instr} {dma mem : Bool} {s t : State} {x : Setting}
    (hacc : Accepts s i dma mem) (hi : i.isDescriptor = false)
    (hsample : i = .begin → s.bound = true → s.begun = false → x.dmaAvail = dma ∧ x.memAvail = mem)
    (h : exec i (s.withSetting x) = .next t) : StepEffect s x t := by
  rcases exec_command_cases hi h with ⟨st, d, rfl⟩ | ⟨rfl, rfl⟩ | ⟨rfl, hbound, hbegun, hdma, hmem, rfl⟩ |
    ⟨rfl, rfl⟩ | ⟨rot, px, py, b, rfl, hbegun, hclip, ho, rfl⟩ | ⟨rfl, hbegun, rfl⟩ | ⟨v, rfl, rfl⟩
  · exact .answer st d
  · exact .create hacc
  · obtain ⟨rfl, rfl⟩ := hsample rfl hbound hbegun
    rw [show x.dmaAvail = true from hdma, show x.memAvail = true from hmem] at hacc
    exact .begin hacc hbound hbegun
  · exact .stop hacc
  · exact .setPixel hacc hbegun hclip ho
  · exact .clear hacc hbegun
  · exact .setFieldHint hacc

/-- Every step has one of the effects, and lists no move that was not listed before. -/
theorem step_effect {s t : State} (h : step s = .next t) :
    ∃ x : Setting, (∀ i ∈ x.inputs, i ∈ s.inputs) ∧ StepEffect s x t := by
  obtain ⟨-, s', hs', hmove⟩ := step_cases h
  have hsub := hs'.inputs
  obtain ⟨x, rfl⟩ : ∃ x, s' = s.withSetting x := ⟨_, hs'.eq_withSetting⟩
  rcases hmove with ⟨hedge, hin⟩ | ⟨hslot, w, dma, mem, hin, hcmd⟩ | ⟨k, rfl⟩ | ⟨hslot, dac, hin, rfl⟩
  · exact ⟨x, hsub, clockEdge_effect hedge hin⟩
  · rcases presentCommand_cases hcmd with ⟨-, rfl⟩ | ⟨hready, i, hd, he⟩ | ⟨-, -, rfl⟩
    · exact ⟨x, hsub, .idle⟩
    · rw [State.sampleFor_eq_withSetting] at he
      refine ⟨_, ?_, exec_command_effect ⟨hready, hslot, w, by rw [hin]; rfl, hd⟩ (decodeCommand_isCommand hd)
        (fun hbegin hbound hbegun => ?_) he⟩
      · simpa [State.setting] using hsub
      · subst hbegin
        rw [State.sampleFor_begin (s := s.withSetting x) hbound hbegun]
        exact ⟨rfl, rfl⟩
    · exact ⟨x, hsub, .answer _ _⟩
  · exact ⟨x, hsub, .clearStore k⟩
  · exact ⟨x, hsub, .reset ⟨hslot, dac, by rw [hin]; rfl⟩ dac⟩

end Sys2Proof.Machine

/-! The invariant of a run (10_state.md R38, 41_frame_buffer.md R141, 42_descriptor_chain.md R166, R167,
60_exceptions.md R222): it holds after reset and every step keeps it. The engine's beat moves the position
inside the built chain; the host's stores put levels of the signal inside the buffer. -/

namespace Sys2Proof.Machine

/-! ### The position -/

/-- In the built chain every descriptor can be fetched (R166). -/
theorem fetchDescriptor_of_builtChain {s : State} (hchain : s.chain = builtChain s.cfg)
    (hi : s.didx.toNat < numDescriptors) :
    fetchDescriptor s = some (chainBuild s.cfg s.didx.toNat) := by
  rw [fetchDescriptor, if_pos hi, hchain, builtChain_read, if_pos hi]

/-- R38 without its last clause, which the others imply under a well-formed configuration (R61, R95). -/
theorem positionOk_of_counts {s : State} {d : Word} {i : Instr} (hc : s.cfg.WF)
    (hf : fetchDescriptor s = some d) (hD : decodeD s.cfg d = .ok i)
    (h1 : 1 ≤ s.bcnt.toNat) (h2 : s.bcnt.toNat ≤ (dCount d).toNat)
    (hs : s.sptr.toNat = (dSrcoff d).toNat + if dSrcinc d = 1 then (dCount d).toNat - s.bcnt.toNat else 0) :
    PositionOk s := by
  obtain ⟨-, -, hin⟩ := decodeD_extent hc hD
  refine ⟨d, hf, ⟨i, hD⟩, h1, h2, hs, hs ▸ hin _ ?_⟩
  split_ifs <;> omega

/-- The first beat of a descriptor of the built chain meets R38 (R164, R204). -/
theorem positionOk_of_loaded {s : State} (hc : s.cfg.WF) (hchain : s.chain = builtChain s.cfg)
    (hi : s.didx.toNat < numDescriptors) (hb : s.bcnt = dCount (chainBuild s.cfg s.didx.toNat))
    (hs : s.sptr = dSrcoff (chainBuild s.cfg s.didx.toNat)) : PositionOk s := by
  have hD := decodeD_chainBuild hc hi
  obtain ⟨hcount, -, -⟩ := decodeD_extent hc hD
  exact positionOk_of_counts hc (fetchDescriptor_of_builtChain hchain hi) hD (hb ▸ hcount) (hb ▸ le_rfl)
    (by simp [hb, hs])

/-- The advance to a descriptor of the built chain (R164). -/
theorem advance_positionOk {s : State} {n : Reg} (hc : s.cfg.WF) (hchain : s.chain = builtChain s.cfg)
    (hn : n.toNat < numDescriptors) : PositionOk (s.advance n) := by
  have hread : s.chain.read n.toNat = some (chainBuild s.cfg n.toNat) := by
    rw [hchain, builtChain_read, if_pos hn]
  rw [State.advance_of_read hread]
  exact positionOk_of_loaded hc hchain hn rfl rfl

/-- The end of a beat keeps R38: inside the descriptor one beat on, or at the first beat of its successor
(R163). -/
theorem endBeat_positionOk {s : State} {d : Word} (hc : s.cfg.WF) (hchain : s.chain = builtChain s.cfg)
    (hf : fetchDescriptor s = some d) (h : PositionOk s) :
    PositionOk (s.endBeat (dSrcinc d = 1) (dNext d)) := by
  obtain ⟨d', hf', ⟨i, hD⟩, h1, h2, hs, -⟩ := h
  obtain rfl : d' = d := Option.some.inj (hf'.symm.trans hf)
  by_cases hmore : 1 < s.bcnt.toNat
  · rw [State.endBeat_of_more hmore]
    obtain ⟨-, hfit, -⟩ := decodeD_extent hc hD
    have hbcnt : (s.bcnt - 1).toNat = s.bcnt.toNat - 1 := by bv_omega
    refine positionOk_of_counts (d := d') hc hf hD ?_ ?_ ?_
    · change 1 ≤ (s.bcnt - 1).toNat
      omega
    · change (s.bcnt - 1).toNat ≤ _
      omega
    · by_cases hinc : dSrcinc d' = 1
      · have hsptr : (s.sptr + 1).toNat = s.sptr.toNat + 1 := by
          simp only [hinc, if_true] at hs
          bv_omega
        simp only [hinc, if_true, decide_true, hsptr, hbcnt] at hs ⊢
        omega
      · simp only [hinc, if_false, decide_false, Bool.false_eq_true] at hs ⊢
        exact hs
  · rw [State.endBeat_of_last (by omega)]
    exact advance_positionOk hc hchain (dNext_lt_of_decodeD hD)

/-- A source element inside its space has a value: the tables are full and so is the buffer (R129, R141). -/
theorem sourceElement_of_inSource {s : State} {d : Word} (hc : s.cfg.WF) (hb : BufferOk s)
    (h : InSource s.cfg d s.sptr.toNat) : ∃ v, sourceElement s d = some v := by
  obtain ⟨hodd, heven, hfb⟩ := h
  unfold sourceElement
  split_ifs with h0 h1 h2
  · exact ⟨_, List.getElem?_eq_getElem (by rw [length_ttOdd hc]; exact hodd h0)⟩
  · exact ⟨_, List.getElem?_eq_getElem (by rw [length_ttEven hc]; exact heven h1)⟩
  · obtain ⟨v, hv, -⟩ := hb _ (hfb h2)
    exact ⟨v, by rw [fbRead, if_pos (hfb h2), hv]⟩
  · exact ⟨_, rfl⟩

/-! ### What leaves the invariant as it is -/

/-- `t` has every element `State.Inv` speaks of as `s` has it. -/
def SameBlock (s t : State) : Prop :=
  t = { s with
    dacOut := t.dacOut, fieldLatch := t.fieldLatch, dmaAvail := t.dmaAvail, memAvail := t.memAvail,
    rspValid := t.rspValid, rsp := t.rsp, dacWr := t.dacWr, pixTick := t.pixTick, inputs := t.inputs,
    slot := t.slot, trace := t.trace, draws := t.draws }

theorem State.Inv.of_sameBlock {s t : State} (h : s.Inv) (e : SameBlock s t) : t.Inv := by
  rw [show t = _ from e]
  exact { h with }

theorem writeDestination_sameBlock (d : Word) (v : Sample) (s : State) :
    SameBlock s (writeDestination d v s) := by
  unfold writeDestination
  split <;> rfl

/-! ### The engine -/

theorem State.Inv.countEdge {s : State} (h : s.Inv) (hrun : s.run = true)
    (hdiv : s.div.toNat + 1 ≠ s.cfg.P) : s.countEdge.Inv := by
  have hlt := h.divider hrun
  obtain ⟨-, -, ⟨-, hP⟩, -⟩ := h.config
  have hnext : (s.div + 1).toNat < s.cfg.P := by bv_omega
  exact { h with divider := fun _ => hnext }

theorem State.Inv.tickStart {s : State} (h : s.Inv) : s.tickStart.Inv := by
  obtain ⟨-, -, ⟨hP, -⟩, -⟩ := h.config
  exact { h with divider := fun _ => hP }

/-- The end of a beat changes the position alone (R163, R164). -/
theorem State.endBeat_eq (b : Bool) (n : Reg) (s : State) :
    s.endBeat b n = { s with didx := (s.endBeat b n).didx, bcnt := (s.endBeat b n).bcnt,
                             sptr := (s.endBeat b n).sptr, draws := (s.endBeat b n).draws } := by
  unfold State.endBeat State.advance
  split
  · rfl
  · split <;> rfl

theorem State.Inv.endBeat {s : State} {d : Word} (h : s.Inv) (hrun : s.run = true)
    (hf : fetchDescriptor s = some d) : (s.endBeat (dSrcinc d = 1) (dNext d)).Inv := by
  have hpos := endBeat_positionOk h.config (h.chainBuilt (h.begunFirst hrun)) hf (h.position hrun)
  rw [State.endBeat_eq] at hpos ⊢
  exact { h with position := fun _ => hpos }

/-- In a run every beat finds its descriptor and its source element (R38, R222). -/
theorem State.Inv.source {s : State} (h : s.Inv) (hrun : s.run = true) :
    ∃ i, Current s i ∧ ∀ d, fetchDescriptor s = some d → ∃ v, sourceElement s d = some v := by
  obtain ⟨d, hf, ⟨i, hD⟩, -, -, -, hin⟩ := h.position hrun
  refine ⟨i, ⟨d, hf, hD⟩, fun d' hf' => ?_⟩
  obtain rfl : d = d' := Option.some.inj (hf.symm.trans hf')
  exact sourceElement_of_inSource h.config (h.buffer (h.begunFirst hrun)) hin

/-! ### The host -/

theorem State.Inv.setBound {s : State} (h : s.Inv) : s.setBound.Inv :=
  { h with boundFirst := fun _ => rfl }

theorem State.Inv.stopRun {s : State} (h : s.Inv) : s.stopRun.Inv :=
  { h with begunFirst := nofun, position := nofun, divider := nofun }

theorem State.Inv.beginSuccess {s : State} (h : s.Inv) (hbound : s.bound = true) : s.beginSuccess.Inv where
  config := h.config
  fbCanonical := blackFrame_wf _
  fbInside a ha := (blackFrame_read _ a).trans (if_neg (not_lt.mpr ha))
  unallocated := nofun
  buffer _ o ho := ⟨_, (blackFrame_read _ o).trans (if_pos ho), activeSample_mem_levels h.config _⟩
  chainBuilt _ := rfl
  boundFirst _ := hbound
  begunFirst _ := rfl
  noFault := h.noFault
  position _ := positionOk_of_loaded h.config rfl (show (0 : Reg).toNat < _ by decide)
    (by simp [chainBuild, chainInstr, encode]) (by simp [chainBuild, chainInstr, encode])
  divider _ := by
    obtain ⟨-, -, ⟨hP, -⟩, -⟩ := h.config
    exact hP
  clearing := h.clearing
  pendRising := h.pendRising
  pendInside := h.pendInside
  clearAfterBegin _ := rfl

/-- A store of a level inside the buffer (R31, R141). -/
theorem State.Inv.store {s : State} (h : s.Inv) {o : Nat} {v : Sample} (hbegun : s.begun = true)
    (ho : o < s.cfg.fbSize) (hv : s.cfg.sync.toNat ≤ v.toNat ∧ v.toNat ≤ s.cfg.white.toNat) :
    State.Inv { s with fb := s.fb.write o v } :=
  { h with
    fbCanonical := Memory.write_wf _ _ _ h.fbCanonical
    fbInside := fun a ha => by
      rw [Memory.read_write_other _ _ (ho.trans_le ha).ne]
      exact h.fbInside a ha
    unallocated := fun hb => absurd hbegun (by simpa using hb)
    buffer := fun _ a ha => by
      by_cases hoa : o = a
      · subst hoa
        exact ⟨v, Memory.read_write_same .., hv⟩
      · obtain ⟨u, hu, hlevels⟩ := h.buffer hbegun a ha
        exact ⟨u, (Memory.read_write_other _ _ hoa).trans hu, hlevels⟩ }

/-- The pending set and `CLR_BUSY` together (R34, R148). -/
theorem State.Inv.setPending {s : State} (h : s.Inv) (hbegun : s.begun = true) {b : Bool} {l : List Nat}
    (hb : b = true ↔ l ≠ []) (hrising : l.Pairwise (· < ·)) (hinside : ∀ o ∈ l, o < s.cfg.fbSize) :
    State.Inv { s with clrBusy := b, clrPend := l } :=
  { h with
    clearing := hb
    pendRising := hrising
    pendInside := hinside
    clearAfterBegin := fun _ => hbegun }

theorem State.Inv.clearStart {s : State} (h : s.Inv) (hbegun : s.begun = true) : s.clearStart.Inv := by
  obtain ⟨-, ⟨-, hR, -⟩, -⟩ := h.config
  refine h.setPending hbegun ?_ List.pairwise_lt_range fun o ho => List.mem_range.mp ho
  simp [Config.fbSize, height]
  omega

/-- A store of a CLEAR, the last of them included (R149). -/
theorem State.Inv.clearStore {s : State} (h : s.Inv) (k : Nat) : (s.clearStore k).Inv := by
  rcases s.clearStore_cases k with ⟨-, e⟩ | ⟨hbusy, hnil, -⟩ | ⟨hbusy, o, ho, e⟩
  · rw [e]
    exact h
  · exact absurd hnil (h.clearing.mp hbusy)
  · have hbegun := h.clearAfterBegin hbusy
    have hstore := h.store hbegun (h.pendInside o (List.mem_of_getElem? ho))
      (activeSample_mem_levels h.config (o % s.cfg.R))
    have hsub := List.eraseIdx_sublist s.clrPend (k % s.clrPend.length)
    have hrising := h.pendRising.sublist hsub
    have hinside := fun a ha => h.pendInside a (hsub.subset ha)
    rw [e, State.clearFinish]
    split_ifs with hnil
    · have hdone := hstore.setPending (b := false) hbegun ⟨nofun, fun hne => absurd hnil hne⟩ hrising hinside
      exact hdone.of_sameBlock rfl
    · exact hstore.setPending (b := s.clrBusy) hbegun ⟨fun _ => hnil, fun _ => hbusy⟩ hrising hinside

/-- The invariant right after reset: nothing is allocated, nothing runs, no CLEAR is in progress (R39). -/
theorem resetWith_inv {c : Config} (hc : c.WF) (dac : Sample) : (State.resetWith c dac).Inv where
  config := hc
  fbCanonical := List.Pairwise.nil
  fbInside _ _ := rfl
  unallocated _ := ⟨rfl, rfl⟩
  buffer := nofun
  chainBuilt := nofun
  boundFirst := nofun
  begunFirst := nofun
  noFault := rfl
  position := nofun
  divider := nofun
  clearing := by simp
  pendRising := List.Pairwise.nil
  pendInside := nofun
  clearAfterBegin := nofun

/-! ### Every step -/

theorem State.Inv.stepEffect {s t : State} {x : Setting} (h : s.Inv) (e : StepEffect s x t) : t.Inv := by
  have hx : (s.withSetting x).Inv := h.of_sameBlock rfl
  cases e with
  | idle => exact hx
  | count hrun hdiv => exact hx.countEdge hrun hdiv
  | @beat d _ v htick hf =>
    have hdest := writeDestination_sameBlock d v (s.withSetting x).tickStart
    refine (hx.tickStart.of_sameBlock hdest).endBeat ?_ ?_
    · rw [show writeDestination _ _ _ = _ from hdest]
      exact htick.1
    · rw [show writeDestination _ _ _ = _ from hdest]
      exact hf
  | fault htick hbad =>
    obtain ⟨i, hcur, hsource⟩ := h.source htick.1
    rcases hbad with hnone | ⟨d, hf, hv⟩
    · exact absurd hcur (hnone i)
    · obtain ⟨v, hv'⟩ := hsource d hf
      rw [hv] at hv'
      cases hv'
  | answer => exact hx.of_sameBlock rfl
  | create => exact hx.setBound.of_sameBlock rfl
  | begin _ hbound => exact (hx.beginSuccess hbound).of_sameBlock rfl
  | stop => exact hx.stopRun.of_sameBlock rfl
  | @setPixel _ _ _ b _ _ _ hbegun _ hinside =>
    exact (hx.store hbegun hinside (quantize_mem_levels h.config b)).of_sameBlock rfl
  | clear _ hbegun => exact hx.clearStart hbegun
  | setFieldHint => exact hx.of_sameBlock rfl
  | clearStore k => exact hx.clearStore k
  | reset _ dac => exact (resetWith_inv h.config dac).of_sameBlock rfl

/-- Settles O53, effect by effect. -/
theorem invariantKept : Obligations.InvariantKept := by
  intro s t h hstep
  obtain ⟨x, -, e⟩ := step_effect hstep
  exact h.stepEffect e

/-- Settles O52. -/
theorem invariantAtReset : Obligations.InvariantAtReset := fun _ dac hc => resetWith_inv hc dac

/-- The invariant holds in every state of a run. -/
theorem Reachable.inv {c : Config} {s : State} (hc : c.WF) (h : Reachable c s) : s.Inv := by
  induction h with
  | reset dac => exact resetWith_inv hc dac
  | outside s moves _ ih => exact ih.of_sameBlock rfl
  | step s t _ hstep ih => exact invariantKept s t ih hstep

/-- Settles O54: R38 is a clause of the invariant. -/
theorem positionInEveryRun : Obligations.PositionInEveryRun :=
  fun _ _ hc h hrun => (h.inv hc).position hrun

end Sys2Proof.Machine

/-! Who may change what (10_state.md R21, R27 to R29, R31): in every step, from every state, each element
changes only by the events its table lists. Each statement is read off the effects of a step. -/

namespace Sys2Proof.Machine

/-! ### What a beat and a store leave as it is -/

section
variable (d : Word) (v : Sample) (s : State)

@[simp] theorem writeDestination_cfg : (writeDestination d v s).cfg = s.cfg := by
  unfold writeDestination; split <;> rfl
@[simp] theorem writeDestination_bound : (writeDestination d v s).bound = s.bound := by
  unfold writeDestination; split <;> rfl
@[simp] theorem writeDestination_begun : (writeDestination d v s).begun = s.begun := by
  unfold writeDestination; split <;> rfl
@[simp] theorem writeDestination_run : (writeDestination d v s).run = s.run := by
  unfold writeDestination; split <;> rfl
@[simp] theorem writeDestination_fault : (writeDestination d v s).fault = s.fault := by
  unfold writeDestination; split <;> rfl
@[simp] theorem writeDestination_fb : (writeDestination d v s).fb = s.fb := by
  unfold writeDestination; split <;> rfl
@[simp] theorem writeDestination_inputs : (writeDestination d v s).inputs = s.inputs := by
  unfold writeDestination; split <;> rfl

end

/-! ### The flags -/

/-- `BOUND` is set by a good CREATE and cleared by reset (R29). -/
theorem StepEffect.bound_of_ne {s t : State} {x : Setting} (e : StepEffect s x t) (hne : t.bound ≠ s.bound) :
    (t.bound = true ∧ ∃ dma mem, Accepts s (.create s.cfg.modeId) dma mem) ∨ (t.bound = false ∧ Resets s) := by
  cases e with
  | create hacc => exact .inl ⟨rfl, _, _, hacc⟩
  | reset hreset => exact .inr ⟨rfl, hreset⟩
  | beat | clearStore => exact absurd (by simp) hne
  | _ => exact absurd rfl hne

/-- `BEGUN` is set by the first successful BEGIN and cleared by reset (R29). -/
theorem StepEffect.begun_of_ne {s t : State} {x : Setting} (e : StepEffect s x t) (hne : t.begun ≠ s.begun) :
    (t.begun = true ∧ Accepts s .begin true true ∧ s.bound = true) ∨ (t.begun = false ∧ Resets s) := by
  cases e with
  | begin hacc hbound => exact .inl ⟨rfl, hacc, hbound⟩
  | reset hreset => exact .inr ⟨rfl, hreset⟩
  | beat | clearStore => exact absurd (by simp) hne
  | _ => exact absurd rfl hne

/-- `RUN` is set by the first successful BEGIN and cleared by STOP, by the engine fault and by reset (R29). -/
theorem StepEffect.run_of_ne {s t : State} {x : Setting} (e : StepEffect s x t) (hne : t.run ≠ s.run) :
    (t.run = true ∧ Accepts s .begin true true ∧ s.bound = true ∧ s.begun = false) ∨
    (t.run = false ∧ ((∃ dma mem, Accepts s .stop dma mem) ∨ (Ticks s ∧ t.fault = true) ∨ Resets s)) := by
  cases e with
  | begin hacc hbound hbegun => exact .inl ⟨rfl, hacc, hbound, hbegun⟩
  | stop hacc => exact .inr ⟨rfl, .inl ⟨_, _, hacc⟩⟩
  | fault htick => exact .inr ⟨rfl, .inr (.inl ⟨htick, rfl⟩)⟩
  | reset hreset => exact .inr ⟨rfl, .inr (.inr hreset)⟩
  | beat | clearStore => exact absurd (by simp) hne
  | _ => exact absurd rfl hne

/-- `FAULT` is set by a tick that has no well-formed descriptor or no source element, and cleared by
reset (R29). -/
theorem StepEffect.fault_of_ne {s t : State} {x : Setting} (e : StepEffect s x t) (hne : t.fault ≠ s.fault) :
    (t.fault = true ∧ Ticks s ∧ t.run = false ∧
      ((∀ i, ¬ Current s i) ∨ ∃ d, fetchDescriptor s = some d ∧ sourceElement s d = none)) ∨
    (t.fault = false ∧ Resets s) := by
  cases e with
  | fault htick hbad => exact .inl ⟨rfl, htick, rfl, hbad⟩
  | reset hreset => exact .inr ⟨rfl, hreset⟩
  | beat | clearStore => exact absurd (by simp) hne
  | _ => exact absurd rfl hne

/-- Settles O56, flag by flag. -/
theorem flagsChangeOnlyAsListed : Obligations.FlagsChangeOnlyAsListed := by
  intro s t hstep
  obtain ⟨x, -, e⟩ := step_effect hstep
  exact ⟨e.bound_of_ne, e.begun_of_ne, e.run_of_ne, e.fault_of_ne⟩

/-! ### The latch -/

/-- The latch is written by the two MARK beats, by SET_FIELD_HINT and by reset (R28). -/
theorem StepEffect.fieldLatch_of_ne {s t : State} {x : Setting} (e : StepEffect s x t)
    (hne : t.fieldLatch ≠ s.fieldLatch) :
    (Ticks s ∧ (∃ n, Current s (.markOdd n)) ∧ t.fieldLatch = 1) ∨
    (Ticks s ∧ (∃ n, Current s (.markEven n)) ∧ t.fieldLatch = 2) ∨
    (∃ v dma mem, Accepts s (.setFieldHint v) dma mem ∧ t.fieldLatch = v) ∨
    (Resets s ∧ t.fieldLatch = 0) := by
  cases e with
  | beat htick hf hD hv =>
    rcases writeDestination_cases hD hv (s.withSetting x).tickStart with
      ⟨-, hw⟩ | ⟨⟨n, rfl⟩, hw⟩ | ⟨⟨n, rfl⟩, hw⟩
    · exact absurd (by simp [hw]) hne
    · exact .inl ⟨htick, ⟨n, _, hf, hD⟩, by simp [hw]⟩
    · exact .inr (.inl ⟨htick, ⟨n, _, hf, hD⟩, by simp [hw]⟩)
  | setFieldHint hacc => exact .inr (.inr (.inl ⟨_, _, _, hacc, rfl⟩))
  | reset hreset => exact .inr (.inr (.inr ⟨hreset, rfl⟩))
  | clearStore => exact absurd (by simp) hne
  | _ => exact absurd rfl hne

/-- Settles O40. -/
theorem latchWritersOnly : Obligations.LatchWritersOnly := by
  intro s t hstep
  obtain ⟨x, -, e⟩ := step_effect hstep
  exact e.fieldLatch_of_ne

/-- No effect lists a move: the moves left are those of the setting. -/
theorem StepEffect.inputs {s t : State} {x : Setting} (e : StepEffect s x t) : t.inputs = x.inputs := by
  cases e with
  | beat | clearStore => simp
  | _ => rfl

/-- Settles O41: the engine writes the two markers, and the host by its duty only 0. -/
theorem latchLegalUnderDuty : Obligations.LatchLegalUnderDuty := by
  intro s t hduty hlegal hstep
  obtain ⟨x, hsub, e⟩ := step_effect hstep
  refine ⟨fun w dma mem v hin => hduty w dma mem v (hsub _ (e.inputs ▸ hin)), ?_⟩
  by_cases hsame : t.fieldLatch = s.fieldLatch
  · rw [LatchLegal, hsame]
    exact hlegal
  · rcases e.fieldLatch_of_ne hsame with ⟨-, -, h⟩ | ⟨-, -, h⟩ | ⟨v, dma, mem, ⟨-, -, w, hw, hd⟩, h⟩ | ⟨-, h⟩
    · exact .inr (.inl h)
    · exact .inr (.inr h)
    · exact .inl (h.trans (hduty w dma mem v (List.mem_of_head? hw) hd))
    · exact .inl h

/-! ### The DAC -/

/-- Settles O58: of the beats only a video kind's writes the DAC, with the sample it shows (R27). -/
theorem dacWrittenOnlyByVideoBeat : Obligations.DacWrittenOnlyByVideoBeat := by
  intro s t hstep hne
  obtain ⟨x, -, e⟩ := step_effect hstep
  cases e with
  | beat htick hf hD hv =>
    rcases writeDestination_cases hD hv (s.withSetting x).tickStart with
      ⟨hvideo, hw⟩ | ⟨-, hw⟩ | ⟨-, hw⟩
    · exact .inl ⟨htick, by simp [hw], by simp [hw], _, ⟨_, hf, hD⟩, hvideo⟩
    · exact absurd (by simp [hw]) hne
    · exact absurd (by simp [hw]) hne
  | reset hreset => exact .inr hreset
  | clearStore => exact absurd (by simp) hne
  | _ => exact absurd rfl hne

/-! ### The frame buffer -/

/-- Settles O59: the engine only reads the buffer, and each host write of it is one of R31's (R31, R36). -/
theorem bufferWrittenOnlyByHost : Obligations.BufferWrittenOnlyByHost := by
  intro s t hstep hne
  obtain ⟨x, -, e⟩ := step_effect hstep
  cases e with
  | setPixel hacc hbegun => exact .inl ⟨_, _, _, _, _, _, hacc, hbegun, rfl⟩
  | clearStore k =>
    rcases (s.withSetting x).clearStore_cases k with ⟨-, e⟩ | ⟨-, -, e⟩ | ⟨hbusy, o, ho, e⟩
    · exact absurd (by simp [e]) hne
    · exact absurd (by simp [e]) hne
    · exact .inr (.inl ⟨hbusy, o, List.mem_of_getElem? ho, by simp [e]⟩)
  | begin hacc _ hbegun => exact .inr (.inr (.inl ⟨hacc, hbegun, rfl⟩))
  | reset hreset => exact .inr (.inr (.inr ⟨hreset, rfl⟩))
  | beat => exact absurd (by simp) hne
  | _ => exact absurd rfl hne

/-! ### A source element that has no value -/

/-- No table has an element behind its end (R61, R130). -/
theorem ttRead_odd_none {c : Config} (hc : c.WF) {i : Nat} (h : c.lenOdd ≤ i) : ttRead c .odd i = none :=
  List.getElem?_eq_none (by rw [length_ttOdd hc]; exact h)

theorem ttRead_even_none {c : Config} (hc : c.WF) {i : Nat} (h : c.lenEven ≤ i) : ttRead c .even i = none :=
  List.getElem?_eq_none (by rw [length_ttEven hc]; exact h)

/-- The buffer has no value outside its range or at an `undef` element (R31, R61). -/
theorem fbRead_none {s : State} {i : Nat} (h : s.cfg.fbSize ≤ i ∨ s.fb.read i = none) : fbRead s i = none := by
  unfold fbRead
  split_ifs with hi
  · exact h.resolve_left (not_le.mpr hi)
  · rfl

/-- Settles O29: a video beat without a source element is the engine fault, whatever its descriptor. -/
theorem unreadableSourceFaults : Obligations.UnreadableSourceFaults := by
  intro s count srcoff next
  refine ⟨fun h hc => ?_, fun h hc => ?_, fun h => ?_⟩
  · rw [exec_xferTtOdd, ttRead_odd_none hc h, videoBeat_none]
    rfl
  · rw [exec_xferTtEven, ttRead_even_none hc h, videoBeat_none]
    rfl
  · rw [exec_xferRow, fbRead_none h, videoBeat_none]
    rfl

/-! ### The configuration -/

/-- Nothing a step does changes the configuration (R21). -/
theorem StepEffect.cfg {s t : State} {x : Setting} (e : StepEffect s x t) : t.cfg = s.cfg := by
  cases e with
  | beat | clearStore => simp
  | _ => rfl

/-- No beat and no draw before BEGIN is refused (R8: only an ill-formed configuration is). -/
theorem videoBeat_ne_refused (ok : Bool) (v : Option Sample) (n : Reg) (s : State) (r : Refusal) :
    videoBeat ok v n s ≠ .refused r := by
  cases ok <;> cases v <;> nofun

theorem latchBeat_ne_refused (ok : Bool) (b : Byte) (n : Reg) (s : State) (r : Refusal) :
    latchBeat ok b n s ≠ .refused r := by
  cases ok <;> nofun

theorem beforeBegin_ne_refused (s : State) (r : Refusal) : beforeBegin s ≠ .refused r := by
  unfold beforeBegin
  split <;> nofun

/-- Every instruction has a meaning in every state. -/
theorem exec_ne_refused (i : Instr) (s : State) (r : Refusal) : exec i s ≠ .refused r := by
  cases i with
  | xferTtOdd | xferTtEven | xferRow => exact videoBeat_ne_refused _ _ _ _ _
  | markOdd | markEven => exact latchBeat_ne_refused _ _ _ _ _
  | stop | setFieldHint | getField => nofun
  | create =>
    simp only [exec, execCreate]
    split_ifs <;> nofun
  | begin =>
    simp only [exec, execBegin]
    split_ifs <;> nofun
  | setPixel =>
    simp only [exec, execSetPixel, pixelStore]
    split_ifs
    · nofun
    · nofun
    · nofun
    · exact beforeBegin_ne_refused s r
  | clear =>
    simp only [exec, execClear]
    split_ifs
    · nofun
    · exact beforeBegin_ne_refused s r

theorem clockEdge_ne_refused (s : State) (r : Refusal) : clockEdge s ≠ .refused r := by
  unfold clockEdge beat
  split_ifs
  · split
    · nofun
    · split
      · exact exec_ne_refused _ _ _
      · nofun
  · nofun
  · nofun

theorem presentCommand_ne_refused (w : Word) (dma mem : Bool) (s : State) (r : Refusal) :
    presentCommand w dma mem s ≠ .refused r := by
  unfold presentCommand
  split_ifs
  · nofun
  · split
    · exact exec_ne_refused _ _ _
    · nofun

theorem move_ne_refused (i : Input) (s : State) (r : Refusal) : move i s ≠ .refused r := by
  cases i with
  | edge => exact clockEdge_ne_refused _ _
  | command => exact presentCommand_ne_refused _ _ _ _ _
  | clearStore | reset => nofun

theorem idleMove_ne_refused (s : State) (r : Refusal) : idleMove s ≠ .refused r := by
  unfold idleMove
  split_ifs
  · split
    · nofun
    · exact clockEdge_ne_refused _ _
  · exact clockEdge_ne_refused _ _

/-- Settles O51: of the ways a step can go only the check of the configuration refuses. -/
theorem configurationIsFixed : Obligations.ConfigurationIsFixed := by
  refine ⟨fun s t hstep => ?_, fun s hwf => if_neg hwf, fun s r hwf => ?_⟩
  · obtain ⟨x, -, e⟩ := step_effect hstep
    exact e.cfg
  · rw [step, nextMove, if_pos hwf]
    split
    · exact idleMove_ne_refused _ _
    · split_ifs
      · exact clockEdge_ne_refused _ _
      · exact move_ne_refused _ _ _

end Sys2Proof.Machine

/-! The engine's position update and its table beats do not look at the frame buffer (20_memory.md R74):
each commutes with replacing it. -/

namespace Sys2Proof.Machine

/-- `advance` reads `CHAIN` only (R164). -/
theorem State.advance_with_fb (next : Reg) (s : State) (m : Memory 16) :
    State.advance next { s with fb := m } = { s.advance next with fb := m } := by
  cases hd : s.chain.read next.toNat with
  | some d => rw [advance_of_read hd, advance_of_read (s := { s with fb := m }) hd]
  | none => rw [advance_of_undef hd, advance_of_undef (s := { s with fb := m }) hd]

/-- The end of a beat reads `BCNT`, `SPTR` and `CHAIN` only (R163). -/
theorem State.endBeat_with_fb (srcInc : Bool) (next : Reg) (s : State) (m : Memory 16) :
    State.endBeat srcInc next { s with fb := m } = { s.endBeat srcInc next with fb := m } := by
  by_cases hmore : 1 < s.bcnt.toNat
  · rw [endBeat_of_more hmore, endBeat_of_more (s := { s with fb := m }) hmore]
  · have hlast : s.bcnt.toNat ≤ 1 := Nat.le_of_not_lt hmore
    rw [endBeat_of_last hlast, endBeat_of_last (s := { s with fb := m }) hlast, advance_with_fb]

/-- A video beat looks at the buffer at most through its source element: with the same element, replacing
the buffer changes the outcome by that replacement only. -/
theorem videoBeat_with_fb {ok : Bool} {v : Option Sample} {next : Reg} {s t : State} (m : Memory 16)
    (h : videoBeat ok v next s = .next t) :
    videoBeat ok v next { s with fb := m } = .next { t with fb := m } := by
  rcases videoBeat_cases h with ⟨rfl, x, rfl, rfl⟩ | ⟨rfl | rfl, rfl⟩
  · rw [videoBeat_some, ← State.endBeat_with_fb]; rfl
  · rw [videoBeat_false]; rfl
  · rw [videoBeat_none]; rfl

/-- Settles O32: a table beat is a video beat whose source element is the table's, whatever the buffer
holds (R130). -/
theorem tableBeatsIgnoreBuffer : Obligations.TableBeatsIgnoreBuffer := by
  rintro i s t m ⟨count, next, rfl | rfl⟩ h
  · rw [exec_xferTtOdd] at h ⊢
    exact videoBeat_with_fb m h
  · rw [exec_xferTtEven] at h ⊢
    exact videoBeat_with_fb m h

end Sys2Proof.Machine

/-! The two formats beside each other (30_encoding.md R90, R92, R100): the opcode-table rows of both as match
and mask (R98, R101), and the fields both read from the same bits. -/

namespace Sys2Proof

/-- Concatenations of the same shape are equal field by field. -/
theorem append_eq_append_iff {v w : Nat} {a a' : BitVec v} {b b' : BitVec w} :
    a ++ b = a' ++ b' ↔ a = a' ∧ b = b' := by
  refine ⟨fun h => ⟨?_, ?_⟩, fun ⟨ha, hb⟩ => by rw [ha, hb]⟩
  · rw [← BitVec.extractLsb'_append_eq_left (a := a) (b := b), h, BitVec.extractLsb'_append_eq_left]
  · rw [← BitVec.extractLsb'_append_eq_right (a := a) (b := b), h, BitVec.extractLsb'_append_eq_right]

/-- A mask acts field by field. -/
theorem append_and_eq_append_iff {v w : Nat} {a m t : BitVec v} {b n s : BitVec w} :
    (a ++ b) &&& (m ++ n) = t ++ s ↔ a &&& m = t ∧ b &&& n = s := by
  rw [BitVec.and_append, append_eq_append_iff]

/-! ### The rows of `D64` -/

/-- A descriptor word under a mask, field by field. -/
theorem descriptor_and_eq_iff (d : Word) (mt mc ms mn t n s x : BitVec 16) :
    d &&& (mt ++ mc ++ ms ++ mn) = t ++ n ++ s ++ x ↔
      ((dTop d &&& mt = t ∧ dCount d &&& mc = n) ∧ dSrcoff d &&& ms = s) ∧ dNext d &&& mn = x := by
  conv_lhs => rw [← descriptor_append_fields d]
  exact append_and_eq_append_iff.trans <| and_congr_left' <|
    append_and_eq_append_iff.trans <| and_congr_left' append_and_eq_append_iff

/-- The mask of the two table rows (R98). -/
theorem tableMask_eq_iff (d : Word) (t s : BitVec 16) :
    d &&& 0xFFFF0000FFFF0000#64 = t ++ 0#16 ++ s ++ 0#16 ↔ dTop d = t ∧ dSrcoff d = s := by
  have h := descriptor_and_eq_iff d (BitVec.allOnes 16) 0#16 (BitVec.allOnes 16) 0#16 t 0#16 s 0#16
  simp only [BitVec.and_allOnes, BitVec.and_zero, and_true] at h
  exact h

/-- The mask of the picture row (R98). -/
theorem rowMask_eq_iff (d : Word) (t : BitVec 16) :
    d &&& 0xFFFF000000000000#64 = t ++ 0#16 ++ 0#16 ++ 0#16 ↔ dTop d = t := by
  have h := descriptor_and_eq_iff d (BitVec.allOnes 16) 0#16 0#16 0#16 t 0#16 0#16 0#16
  simp only [BitVec.and_allOnes, BitVec.and_zero, and_true] at h
  exact h

/-- The mask of the two marker rows (R98). -/
theorem markMask_eq_iff (d : Word) (t n s : BitVec 16) :
    d &&& 0xFFFFFFFFFFFF0000#64 = t ++ n ++ s ++ 0#16 ↔ dTop d = t ∧ dCount d = n ∧ dSrcoff d = s := by
  have h := descriptor_and_eq_iff d (BitVec.allOnes 16) (BitVec.allOnes 16) (BitVec.allOnes 16) 0#16 t n s 0#16
  simp only [BitVec.and_allOnes, BitVec.and_zero, and_true, and_assoc] at h
  exact h

/-- The row a descriptor word selects, by its fields (R94). -/
theorem decodeDescriptor_ok_iff (d : Word) (i : Instr) : decodeDescriptor d = .ok i ↔
    ((dTop d = 0x1800 ∧ dSrcoff d = 0) ∧ i = .xferTtOdd (dCount d) (dNext d)) ∨
    ((dTop d = 0x5800 ∧ dSrcoff d = 0) ∧ i = .xferTtEven (dCount d) (dNext d)) ∨
    (dTop d = 0x9800 ∧ i = .xferRow (dCount d) (dSrcoff d) (dNext d)) ∨
    ((dTop d = 0xE000 ∧ dCount d = 1 ∧ dSrcoff d = 1) ∧ i = .markOdd (dNext d)) ∨
    ((dTop d = 0xE000 ∧ dCount d = 1 ∧ dSrcoff d = 2) ∧ i = .markEven (dNext d)) := by
  constructor
  · intro h
    unfold decodeDescriptor at h
    split_ifs at h with h1 h2 h3 h4 h5
    · exact .inl ⟨h1, (Except.ok.inj h).symm⟩
    · exact .inr (.inl ⟨h2, (Except.ok.inj h).symm⟩)
    · exact .inr (.inr (.inl ⟨h3, (Except.ok.inj h).symm⟩))
    · exact .inr (.inr (.inr (.inl ⟨h4, (Except.ok.inj h).symm⟩)))
    · exact .inr (.inr (.inr (.inr ⟨h5, (Except.ok.inj h).symm⟩)))
  · rintro (⟨h, rfl⟩ | ⟨h, rfl⟩ | ⟨h, rfl⟩ | ⟨h, rfl⟩ | ⟨h, rfl⟩) <;> simp [decodeDescriptor, h]

/-- The start of an existing row, with the row named (R95). -/
theorem rowOk_iff (c : Config) (srcoff : Reg) :
    RowOk c srcoff ↔ ∃ row, row < height ∧ srcoff.toNat = row * c.R := by
  constructor
  · rintro ⟨hmod, hrow⟩
    exact ⟨_, hrow, (Nat.div_mul_cancel (Nat.dvd_of_mod_eq_zero hmod)).symm⟩
  · rintro ⟨row, hrow, h⟩
    rw [RowOk, h]
    refine ⟨Nat.mul_mod_left _ _, ?_⟩
    rcases Nat.eq_zero_or_pos c.R with hR | hR
    · simp [hR]
    · rwa [Nat.mul_div_cancel row hR]

/-- Settles O3: R98's row, then R95's conditions on the fields of that row. -/
theorem descriptorRowsByMatchAndMask : Obligations.DescriptorRowsByMatchAndMask := by
  intro c d i
  have checked (p : Prop) (j : Instr) :
      (p ∧ i = j) ∧ i.wellFormed c = true ↔ p ∧ j.wellFormed c = true ∧ i = j :=
    ⟨fun ⟨⟨hp, hj⟩, hwf⟩ => ⟨hp, hj ▸ hwf, hj⟩, fun ⟨hp, hwf, hj⟩ => ⟨⟨hp, hj⟩, hj ▸ hwf⟩⟩
  have hodd : d &&& 0xFFFF0000FFFF0000#64 = 0x1800000000000000#64 ↔ dTop d = 0x1800 ∧ dSrcoff d = 0 :=
    tableMask_eq_iff d 0x1800 0
  have heven : d &&& 0xFFFF0000FFFF0000#64 = 0x5800000000000000#64 ↔ dTop d = 0x5800 ∧ dSrcoff d = 0 :=
    tableMask_eq_iff d 0x5800 0
  have hrow : d &&& 0xFFFF000000000000#64 = 0x9800000000000000#64 ↔ dTop d = 0x9800 :=
    rowMask_eq_iff d 0x9800
  have hmarkOdd : d &&& 0xFFFFFFFFFFFF0000#64 = 0xE000000100010000#64 ↔
      dTop d = 0xE000 ∧ dCount d = 1 ∧ dSrcoff d = 1 := markMask_eq_iff d 0xE000 1 1
  have hmarkEven : d &&& 0xFFFFFFFFFFFF0000#64 = 0xE000000100020000#64 ↔
      dTop d = 0xE000 ∧ dCount d = 1 ∧ dSrcoff d = 2 := markMask_eq_iff d 0xE000 1 2
  rw [hodd, heven, hrow, hmarkOdd, hmarkEven, decodeD_ok_iff, decodeDescriptor_ok_iff]
  simp only [or_and_right, checked]
  simp only [Instr.wellFormed, decide_eq_true_iff, rowOk_iff, and_assoc]

/-- Settles O2: the match and mask of a row and its free fields cover all 64 bits (R98). -/
theorem descriptorWordsEncodeBack : Obligations.DescriptorWordsEncodeBack :=
  fun _ _ => encode_of_decodeDescriptor

/-! ### The rows of `H64` -/

/-- The flag fields of a descriptor are `OP` and `ROT` of a command (R92, R100). -/
theorem hOp_append_hRot (w : Word) : hOp w ++ hRot w = dKind w :=
  BitVec.extractLsb'_append_extractLsb'_eq_extractLsb' rfl

/-- A command word is its fields, the operand fields taken together (R100). -/
theorem command_append_fields (w : Word) : hOp w ++ hRot w ++ hRsv w ++ w.extractLsb' 0 40 = w := by
  have h1 : dKind w ++ hRsv w = w.extractLsb' 40 24 :=
    BitVec.extractLsb'_append_extractLsb'_eq_extractLsb' rfl
  have h2 : w.extractLsb' 40 24 ++ w.extractLsb' 0 40 = w.extractLsb' 0 64 :=
    BitVec.extractLsb'_append_extractLsb'_eq_extractLsb' rfl
  rw [hOp_append_hRot, h1, h2]
  exact BitVec.extractLsb'_eq_self

/-- The mask of `OP` and `RSV` against `OP << 60` (R101). -/
theorem commandMask_eq_iff (w : Word) (op : BitVec 4) :
    w &&& 0xF3FFFF0000000000#64 = op ++ 0#2 ++ 0#18 ++ 0#40 ↔ hRsv w = 0 ∧ hOp w = op := by
  have hm : 0xF3FFFF0000000000#64 = BitVec.allOnes 4 ++ 0#2 ++ BitVec.allOnes 18 ++ 0#40 := rfl
  have h : w &&& 0xF3FFFF0000000000#64 = op ++ 0#2 ++ 0#18 ++ 0#40 ↔
      ((hOp w &&& BitVec.allOnes 4 = op ∧ hRot w &&& 0#2 = 0#2) ∧ hRsv w &&& BitVec.allOnes 18 = 0#18) ∧
        w.extractLsb' 0 40 &&& 0#40 = 0#40 := by
    conv_lhs => rw [← command_append_fields w, hm]
    exact append_and_eq_append_iff.trans <| and_congr_left' <|
      append_and_eq_append_iff.trans <| and_congr_left' append_and_eq_append_iff
  simp only [BitVec.and_allOnes, BitVec.and_zero, and_true] at h
  exact h.trans and_comm

/-- The command a word gives, by its fields (R101). -/
theorem decodeCommand_ok_iff (w : Word) (i : Instr) : decodeCommand w = .ok i ↔
    ((hRsv w = 0 ∧ hOp w = 0) ∧ i = .create (hVal w)) ∨
    ((hRsv w = 0 ∧ hOp w = 1) ∧ i = .begin) ∨
    ((hRsv w = 0 ∧ hOp w = 2) ∧ i = .stop) ∨
    ((hRsv w = 0 ∧ hOp w = 3) ∧ i = .setPixel (rotationOf (hRot w)) (hX w) (hY w) (hVal w)) ∨
    ((hRsv w = 0 ∧ hOp w = 4) ∧ i = .clear) ∨
    ((hRsv w = 0 ∧ hOp w = 5) ∧ i = .setFieldHint (hVal w)) ∨
    ((hRsv w = 0 ∧ hOp w = 6) ∧ i = .getField) := by
  constructor
  · intro h
    unfold decodeCommand at h
    split_ifs at h with hr h0 h1 h2 h3 h4 h5 h6
    · exact .inl ⟨⟨not_not.mp hr, h0⟩, (Except.ok.inj h).symm⟩
    · exact .inr (.inl ⟨⟨not_not.mp hr, h1⟩, (Except.ok.inj h).symm⟩)
    · exact .inr (.inr (.inl ⟨⟨not_not.mp hr, h2⟩, (Except.ok.inj h).symm⟩))
    · exact .inr (.inr (.inr (.inl ⟨⟨not_not.mp hr, h3⟩, (Except.ok.inj h).symm⟩)))
    · exact .inr (.inr (.inr (.inr (.inl ⟨⟨not_not.mp hr, h4⟩, (Except.ok.inj h).symm⟩))))
    · exact .inr (.inr (.inr (.inr (.inr (.inl ⟨⟨not_not.mp hr, h5⟩, (Except.ok.inj h).symm⟩)))))
    · exact .inr (.inr (.inr (.inr (.inr (.inr ⟨⟨not_not.mp hr, h6⟩, (Except.ok.inj h).symm⟩)))))
  · rintro (⟨⟨hr, ho⟩, rfl⟩ | ⟨⟨hr, ho⟩, rfl⟩ | ⟨⟨hr, ho⟩, rfl⟩ | ⟨⟨hr, ho⟩, rfl⟩ | ⟨⟨hr, ho⟩, rfl⟩ |
      ⟨⟨hr, ho⟩, rfl⟩ | ⟨⟨hr, ho⟩, rfl⟩) <;> simp [decodeCommand, hr, ho]

/-- Settles O4: the mask leaves `OP` and `RSV`, which alone select the command. -/
theorem commandRowsByMatchAndMask : Obligations.CommandRowsByMatchAndMask := by
  intro w i
  have hmask (op : BitVec 4) (m : Word) (hm : m = op ++ 0#2 ++ 0#18 ++ 0#40) :
      w &&& 0xF3FFFF0000000000#64 = m ↔ hRsv w = 0 ∧ hOp w = op := hm ▸ commandMask_eq_iff w op
  rw [hmask 0 0x0000000000000000#64 rfl, hmask 1 0x1000000000000000#64 rfl, hmask 2 0x2000000000000000#64 rfl,
    hmask 3 0x3000000000000000#64 rfl, hmask 4 0x4000000000000000#64 rfl, hmask 5 0x5000000000000000#64 rfl,
    hmask 6 0x6000000000000000#64 rfl]
  exact decodeCommand_ok_iff w i

/-- Exactly the words with `OP` from 7 on or a non-zero `RSV` are illegal (R103). -/
theorem decodeCommand_error_iff (w : Word) :
    (∃ e, decodeCommand w = .error e) ↔ 7 ≤ (hOp w).toNat ∨ hRsv w ≠ 0 := by
  have legal {op : BitVec 4} (hr : ¬ hRsv w ≠ 0) (hop : hOp w = op) (h7 : op.toNat < 7) :
      (∃ _ : DecodeError, False) ↔ 7 ≤ (hOp w).toNat ∨ hRsv w ≠ 0 :=
    iff_of_false (fun ⟨_, h⟩ => h) (not_or.mpr ⟨hop ▸ Nat.not_le_of_lt h7, hr⟩)
  unfold decodeCommand
  split_ifs with hr h0 h1 h2 h3 h4 h5 h6
  · exact iff_of_true ⟨_, rfl⟩ (.inr hr)
  · exact legal hr h0 (by decide)
  · exact legal hr h1 (by decide)
  · exact legal hr h2 (by decide)
  · exact legal hr h3 (by decide)
  · exact legal hr h4 (by decide)
  · exact legal hr h5 (by decide)
  · exact legal hr h6 (by decide)
  · exact iff_of_true ⟨_, rfl⟩ (.inl (by bv_omega))

/-- The operand fields of a command are read by three commands only (R101, R103): `ROT`, `X` and `Y` by
SET_PIXEL, `VAL` by SET_PIXEL, CREATE and SET_FIELD_HINT. -/
theorem decodeCommand_encodeH64_congr {op : BitVec 4} {rot rot' : BitVec 2} {x x' y y' : Reg} {val val' : Byte}
    (hop : op ≠ 3) (hval : op = 0 ∨ op = 5 → val = val') :
    decodeCommand (encodeH64 op rot x y val) = decodeCommand (encodeH64 op rot' x' y' val') := by
  simp only [decodeCommand, hRsv_encodeH64, hOp_encodeH64, hVal_encodeH64, if_neg hop]
  by_cases h : op = 0 ∨ op = 5
  · rw [hval h]
  · obtain ⟨h0, h5⟩ := not_or.mp h
    simp only [if_neg h0, if_neg h5]

/-- What an illegal word does on a ready port (R103, R220). -/
theorem presentCommand_of_error {w : Word} {e : DecodeError} {s : Machine.State} (dma mem : Bool)
    (hready : s.clrBusy = false) (he : decodeCommand w = .error e) :
    Machine.presentCommand w dma mem s = .next (s.raise .illegalCommand (w.extractLsb' 56 8)) := by
  simp [Machine.presentCommand, hready, he]

/-- Settles O5: an illegal word takes the port's error branch, whatever operands stand in it. -/
theorem reservedCommandsAreIllegal : Obligations.ReservedCommandsAreIllegal := by
  refine ⟨fun w => (decodeCommand_error_iff w).symm, fun w dma mem s hready hill => ?_,
    fun op rot rot' x x' y y' val val' => ⟨fun h3 => ?_, fun h0 h3 h5 => ?_⟩⟩
  · obtain ⟨e, he⟩ := (decodeCommand_error_iff w).mpr hill
    exact presentCommand_of_error dma mem hready he
  · exact decodeCommand_encodeH64_congr h3 fun _ => rfl
  · exact decodeCommand_encodeH64_congr h3 fun h => (h.elim h0 h5).elim

/-! ### The bits both formats read -/

@[simp] theorem dKind_encodeH64 (op : BitVec 4) (rot : BitVec 2) (x y : Reg) (val : Byte) :
    dKind (encodeH64 op rot x y val) = op ++ rot := by
  rw [← hOp_append_hRot, hOp_encodeH64, hRot_encodeH64]

/-- `OP` of a command is the top of a descriptor's flag fields (R92, R100). -/
theorem hOp_toNat (d : Word) : (hOp d).toNat = (dKind d).toNat / 4 := by
  simp only [hOp, dKind, BitVec.extractLsb'_toNat, Nat.shiftRight_eq_div_pow]
  omega

/-- `RSV` of a command reads `RSV` of a descriptor and the upper half of `COUNT` (R92, R100). -/
theorem hRsv_toNat (d : Word) : (hRsv d).toNat = (dRsv d).toNat * 256 + (dCount d).toNat / 256 := by
  simp only [hRsv, dRsv, dCount, BitVec.extractLsb'_toNat, Nat.shiftRight_eq_div_pow]
  have := d.isLt
  omega

/-- The flag fields of the five kinds (R94). -/
def descriptorKinds : List (BitVec 6) := [0b000110, 0b010110, 0b100110, 0b111000]

/-- No command carries the flag fields of a descriptor: under `OP` 1 and 5 `ROT` is not used and is 0 (R106),
and `OP` 9 and 14 are reserved (R103). -/
theorem dKind_encode_mem_iff (i : Instr) : dKind (encode i) ∈ descriptorKinds ↔ i.isDescriptor = true := by
  cases i with
  | xferTtOdd | xferTtEven | xferRow | markOdd | markEven =>
    simp [encode, descriptorKinds, Instr.isDescriptor]
  | setPixel rot => cases rot <;> simp [encode, rotationBits, descriptorKinds, Instr.isDescriptor]
  | _ => simp [encode, descriptorKinds, Instr.isDescriptor]

/-- Encoding a command and decoding it gives it back (R101). -/
theorem decodeCommand_encode {i : Instr} (h : i.isDescriptor = false) : decodeCommand (encode i) = .ok i := by
  cases i with
  | xferTtOdd | xferTtEven | xferRow | markOdd | markEven => cases h
  | _ => simp [encode, decodeCommand]

/-- The encoding of a command matches no row of `D64`. -/
theorem decodeDescriptor_encode_command {i : Instr} (h : i.isDescriptor = false) :
    ∃ e, decodeDescriptor (encode i) = .error e := by
  cases hd : decodeDescriptor (encode i) with
  | error e => exact ⟨e, rfl⟩
  | ok j =>
    have hmem := (dKind_encode_mem_iff j).mpr (Machine.decodeDescriptor_isDescriptor hd)
    rw [encode_of_decodeDescriptor hd, dKind_encode_mem_iff, h] at hmem
    cases hmem

/-- The table bits of a word give the word back. -/
theorem tableWord_toNat (w : Word) : tableWord 64 w.toNat = some w := by
  simp [tableWord, w.isLt]

/-- Reading `D64` rows first does not misread the encoding of a command (log entry 16). -/
theorem decodeTableWord_encode (i : Instr) : decodeTableWord 64 (encode i).toNat = some i := by
  unfold decodeTableWord
  rw [tableWord_toNat]
  cases h : i.isDescriptor with
  | true => simp only [decodeDescriptor_encode h]
  | false =>
    obtain ⟨e, he⟩ := decodeDescriptor_encode_command h
    simp only [he, decodeCommand_encode h]

/-- Settles O1: each format's decoder inverts `encode`, and R97 adds only well-formedness. -/
theorem encodeDecodeRoundTrip : Obligations.EncodeDecodeRoundTrip := fun i =>
  ⟨decodeDescriptor_encode, decodeCommand_encode, decodeTableWord_encode i,
    fun c hdesc hwf => (decodeD_ok_iff c _ i).mpr ⟨decodeDescriptor_encode hdesc, hwf⟩⟩

/-- A count that needs more than 8 bits reaches into `RSV` of a command. -/
theorem hRsv_ne_zero_of_count {d : Word} (h : 256 ≤ (dCount d).toNat) : hRsv d ≠ 0 := by
  intro h0
  have hr := hRsv_toNat d
  have hr0 : (hRsv d).toNat = 0 := congrArg BitVec.toNat h0
  omega

/-- Settles O6: the table kinds have at least `46 * 11` beats, so their `COUNT` makes `RSV` non-zero; the other
kinds have a reserved `OP` (R103). -/
theorem wellFormedDescriptorIsNoCommand : Obligations.WellFormedDescriptorIsNoCommand := by
  rintro c d i ⟨-, ⟨-, hR, -⟩, -⟩ h
  obtain ⟨hdesc, hwf, rfl⟩ := decodeD_ok h
  rw [decodeCommand_error_iff]
  cases i with
  | xferTtOdd count next | xferTtEven count next =>
    obtain ⟨hcount, -⟩ := of_decide_eq_true hwf
    refine .inr (hRsv_ne_zero_of_count ?_)
    simp only [CountOk, Config.lenOdd, Config.lenEven] at hcount
    simp only [encode, dCount_encodeD64]
    omega
  | xferRow | markOdd | markEven => exact .inl (by simp [hOp_toNat, encode])
  | _ => cases hdesc

end Sys2Proof

/-! The contents of the line patterns and the timing tables by index (40_timing_tables.md R121 to R129), and
the beat of a table descriptor (R131, R132). A table is a concatenation: `SegmentAt` says which list stands at
which offset, a concatenation splits into its parts, a repetition into its copies, and every claim about a
sample of a table is read off the segment that holds it. -/

namespace Sys2Proof.Machine

/-! ### Segments of a list -/

/-- The list `l` stands in `t` from offset `off` on. -/
def SegmentAt {α : Type} (t : List α) (off : Nat) (l : List α) : Prop := l <+: t.drop off

theorem segmentAt_of_eq {α : Type} {t l : List α} (h : t = l) : SegmentAt t 0 l := by
  subst h
  exact List.prefix_rfl

theorem segmentAt_append_iff {α : Type} {t l₁ l₂ : List α} {off : Nat} :
    SegmentAt t off (l₁ ++ l₂) ↔ SegmentAt t off l₁ ∧ SegmentAt t (off + l₁.length) l₂ := by
  unfold SegmentAt
  rw [← List.drop_drop]
  constructor
  · rintro ⟨r, hr⟩
    rw [← hr, List.append_assoc, List.drop_left]
    exact ⟨List.prefix_append _ _, List.prefix_append _ _⟩
  · rintro ⟨⟨r, hr⟩, h₂⟩
    rw [← hr, List.drop_left] at h₂
    rw [← hr]
    exact (List.prefix_append_right_inj l₁).mpr h₂

section
variable {α : Type} {t l : List α} {off : Nat}

theorem SegmentAt.congr_offset {off' : Nat} (h : SegmentAt t off l) (e : off = off') : SegmentAt t off' l :=
  e ▸ h

theorem SegmentAt.getElem? {j : Nat} (h : SegmentAt t off l) (hj : j < l.length) : t[off + j]? = l[j]? := by
  obtain ⟨r, hr⟩ := h
  rw [← List.getElem?_drop, ← hr, List.getElem?_append_left hj]

theorem SegmentAt.getElem?_replicate {n i : Nat} {v : α} (h : SegmentAt t off (List.replicate n v))
    (hi : off ≤ i) (hi' : i < off + n) : t[i]? = some v := by
  have hj : i - off < n := by omega
  have hget := h.getElem? (by rwa [List.length_replicate])
  rwa [Nat.add_sub_cancel' hi, List.getElem?_replicate_of_lt hj] at hget

/-- Each copy of a repetition is a segment. -/
theorem SegmentAt.copy {n k : Nat} (h : SegmentAt t off (rep n l)) (hk : k < n) :
    SegmentAt t (off + k * l.length) l := by
  induction n generalizing off k with
  | zero => exact absurd hk (Nat.not_lt_zero _)
  | succ n ih =>
    obtain ⟨hfirst, hrest⟩ := segmentAt_append_iff.mp h
    cases k with
    | zero => exact hfirst.congr_offset (by simp)
    | succ k =>
      exact (ih hrest (Nat.lt_of_succ_lt_succ hk)).congr_offset (by rw [Nat.succ_mul]; omega)

/-- A sample of a repetition is that sample of the list repeated. -/
theorem SegmentAt.getElem?_rep {m n : Nat} (h : SegmentAt t off (rep n l)) (hm : l.length = m) (k j : Nat)
    (hk : k < n) (hj : j < m) : t[off + k * m + j]? = l[j]? := by
  subst hm
  exact (h.copy hk).getElem? hj

theorem mem_of_mem_rep {v : α} {n : Nat} (h : v ∈ rep n l) : v ∈ l := by
  induction n with
  | zero => cases h
  | succ n ih => exact (List.mem_append.mp h).elim id ih

end

/-! ### The line patterns by index -/

/-- A scan line is two half-lines (R10; `R` is even by R8). -/
theorem two_mul_half {c : Config} (hc : c.WF) : 2 * c.half = c.R := by
  obtain ⟨-, ⟨hR, -⟩, -⟩ := hc
  unfold Config.half
  omega

/-- Sync samples, then blank ones: how every line of a table begins (R121, R126). -/
theorem SegmentAt.sync_blank {c : Config} {t : List Sample} {off n j : Nat}
    (h : SegmentAt t off (List.replicate 4 c.sync ++ List.replicate (n - 4) c.blank))
    (hj : j < n) : t[off + j]? = some (if j < 4 then c.sync else c.blank) := by
  obtain ⟨hsync, hblank⟩ := segmentAt_append_iff.mp h
  rw [List.length_replicate] at hblank
  split_ifs with hj4
  · exact hsync.getElem?_replicate (Nat.le_add_right _ _) (by omega)
  · exact hblank.getElem?_replicate (by omega) (by omega)

theorem getElem?_blankLine {c : Config} {j : Nat} (hj : j < c.R) :
    (blankLine c)[j]? = some (if j < 4 then c.sync else c.blank) := by
  have h := (segmentAt_of_eq (blankLine.eq_1 c)).sync_blank hj
  rwa [Nat.zero_add] at h

theorem length_activeLine {c : Config} (hc : c.WF) : (activeLine c).length = c.R := by
  obtain ⟨-, ⟨-, hR, -⟩, -⟩ := hc
  simp only [activeLine, List.length_append, List.length_replicate, lineSync, linePorch, lineTail]
  omega

theorem length_mixedLine {c : Config} (hc : c.WF) : (mixedLine c).length = c.R := by
  have hR := two_mul_half hc
  obtain ⟨-, ⟨-, hR', -⟩, -, -, ⟨⟨he, -⟩, -⟩, -⟩ := hc
  simp only [mixedLine, List.length_append, List.length_replicate, he, lineSync]
  omega

/-- The concatenation `ACTIVE_LINE` and its samples by index agree (R122). -/
theorem getElem?_activeLine {c : Config} {col : Nat} (hcol : col < c.R) :
    (activeLine c)[col]? = some (activeSample c col) := by
  have h := segmentAt_of_eq (activeLine.eq_1 c)
  simp only [segmentAt_append_iff, List.length_append, List.length_replicate, lineSync, linePorch,
    lineTail] at h
  obtain ⟨⟨⟨hsync, hporch⟩, hblack⟩, htail⟩ := h
  unfold activeSample
  split_ifs
  · exact hsync.getElem?_replicate (by omega) (by omega)
  · exact hporch.getElem?_replicate (by omega) (by omega)
  · exact hblack.getElem?_replicate (by omega) (by omega)
  · exact htail.getElem?_replicate (by omega) (by omega)

/-- Settles O11: the samples by index, and the four ranges of columns. -/
theorem activeLineByIndex : Obligations.ActiveLineByIndex := by
  intro c hc
  refine ⟨length_activeLine hc, fun col hcol => ⟨getElem?_activeLine hcol, ?_⟩⟩
  obtain ⟨-, ⟨-, hR, -⟩, -⟩ := hc
  unfold activeSample
  refine ⟨fun h => if_pos h, fun h h' => ?_, fun h h' => ?_, fun h => ?_⟩
  · rw [if_neg (by omega), if_pos h']
  · rw [if_neg (by omega), if_neg (by omega), if_pos h']
  · rw [if_neg (by omega), if_neg (by omega), if_neg (by omega)]

/-! ### The tables by segment -/

/-- Blank lines in a table, sample by sample (R121). -/
theorem SegmentAt.blankLines {c : Config} (hc : c.WF) {t : List Sample} {off n : Nat}
    (h : SegmentAt t off (rep n (blankLine c))) (l j : Nat) (hl : l < n) (hj : j < c.R) :
    t[off + l * c.R + j]? = some (if j < 4 then c.sync else c.blank) := by
  rw [h.getElem?_rep (length_blankLine hc) l j hl hj, getElem?_blankLine hj]

/-- The segments of `TT_ODD` and their offsets (R127). -/
theorem ttOdd_segments {c : Config} (hc : c.WF) :
    SegmentAt (ttOdd c) 0 (rep 16 (blankLine c)) ∧
    SegmentAt (ttOdd c) (16 * c.R) (rep 6 c.eqHalf) ∧
    SegmentAt (ttOdd c) (19 * c.R) (rep 6 c.serrHalf) ∧
    SegmentAt (ttOdd c) (22 * c.R) (rep 6 c.eqHalf) ∧
    SegmentAt (ttOdd c) (25 * c.R) (rep 11 (blankLine c)) ∧
    SegmentAt (ttOdd c) (36 * c.R) (rep 10 (blankLine c)) := by
  have hb := length_blankLine hc
  have hR := two_mul_half hc
  obtain ⟨-, -, -, -, ⟨⟨he, -⟩, -⟩, ⟨⟨hs, -⟩, -⟩⟩ := hc
  have h := segmentAt_of_eq (ttOdd.eq_1 c)
  simp only [segmentAt_append_iff, List.length_append, length_rep, hb, he, hs] at h
  obtain ⟨⟨⟨⟨⟨hblank16, heqPre⟩, hserr⟩, heqPost⟩, hblank11⟩, hblank10⟩ := h
  exact ⟨hblank16, heqPre.congr_offset (by omega), hserr.congr_offset (by omega),
    heqPost.congr_offset (by omega), hblank11.congr_offset (by omega), hblank10.congr_offset (by omega)⟩

/-- The mixed line in a table: its blank half, then its equalizing half (R126). -/
theorem SegmentAt.mixedLine_halves {c : Config} (hc : c.WF) {t : List Sample} {off : Nat}
    (h : SegmentAt t off (mixedLine c)) :
    SegmentAt t off (List.replicate 4 c.sync ++ List.replicate (c.half - 4) c.blank) ∧
    SegmentAt t (off + c.half) c.eqHalf := by
  have hR := two_mul_half hc
  obtain ⟨-, ⟨-, hR', -⟩, -⟩ := hc
  obtain ⟨hblank, heq⟩ := segmentAt_append_iff.mp h
  rw [List.length_append, List.length_replicate, List.length_replicate] at heq
  exact ⟨hblank, heq.congr_offset (by simp only [lineSync]; omega)⟩

/-- The segments of `TT_EVEN` and their offsets (R128). -/
theorem ttEven_segments {c : Config} (hc : c.WF) :
    SegmentAt (ttEven c) 0 (rep 16 (blankLine c)) ∧
    SegmentAt (ttEven c) (16 * c.R) (mixedLine c) ∧
    SegmentAt (ttEven c) (17 * c.R) (rep 5 c.eqHalf) ∧
    SegmentAt (ttEven c) (17 * c.R + 5 * c.half) (rep 6 c.serrHalf) ∧
    SegmentAt (ttEven c) (17 * c.R + 11 * c.half) (rep 5 c.eqHalf) ∧
    SegmentAt (ttEven c) (25 * c.R) (rep 11 (blankLine c)) ∧
    SegmentAt (ttEven c) (36 * c.R) (rep 1 (blankLine c)) ∧
    SegmentAt (ttEven c) (37 * c.R) (rep 10 (blankLine c)) := by
  have hb := length_blankLine hc
  have hm := length_mixedLine hc
  have hR := two_mul_half hc
  obtain ⟨-, -, -, -, ⟨⟨he, -⟩, -⟩, ⟨⟨hs, -⟩, -⟩⟩ := hc
  have h := segmentAt_of_eq (ttEven.eq_1 c)
  simp only [segmentAt_append_iff, List.length_append, length_rep, hb, hm, he, hs] at h
  obtain ⟨⟨⟨⟨⟨⟨⟨hblank16, hmixed⟩, heqPre⟩, hserr⟩, heqPost⟩, hblank11⟩, hblank1⟩, hblank10⟩ := h
  exact ⟨hblank16, hmixed.congr_offset (by omega), heqPre.congr_offset (by omega),
    hserr.congr_offset (by omega), heqPost.congr_offset (by omega),
    hblank11.congr_offset (by omega), hblank1.congr_offset (by omega), hblank10.congr_offset (by omega)⟩

/-- Settles O8: each sample is read off its segment. -/
theorem oddTableSegments : Obligations.OddTableSegments := by
  intro c hc
  obtain ⟨hblank16, heqPre, hserr, heqPost, hblank11, hblank10⟩ := ttOdd_segments hc
  obtain ⟨-, ⟨-, hR, -⟩, -, -, ⟨⟨he, -⟩, -⟩, ⟨⟨hs, -⟩, -⟩⟩ := id hc
  refine ⟨length_ttOdd hc, ⟨length_blankLine hc, fun j hj => ?_, fun j hj hj' => ?_⟩, fun l j hl hj => ?_,
    heqPre.getElem?_rep he, hserr.getElem?_rep hs, heqPost.getElem?_rep he, hblank11.blankLines hc,
    hblank10.blankLines hc⟩
  · rw [getElem?_blankLine (by omega), if_pos hj]
  · rw [getElem?_blankLine hj', if_neg (by omega)]
  · have h := hblank16.blankLines hc l j hl hj
    rwa [Nat.zero_add] at h

/-- Settles O9: each sample is read off its segment. -/
theorem evenTableSegments : Obligations.EvenTableSegments := by
  intro c hc
  obtain ⟨hblank16, hmixed, heqPre, hserr, heqPost, hblank11, hblank1, hblank10⟩ := ttEven_segments hc
  obtain ⟨hmixedBlank, hmixedEq⟩ := hmixed.mixedLine_halves hc
  obtain ⟨-, -, -, -, ⟨⟨he, -⟩, -⟩, ⟨⟨hs, -⟩, -⟩⟩ := id hc
  refine ⟨length_ttEven hc, fun l j hl hj => ?_, fun j hj => hmixedBlank.sync_blank hj,
    fun j hj => hmixedEq.getElem? (he ▸ hj), heqPre.getElem?_rep he, hserr.getElem?_rep hs,
    heqPost.getElem?_rep he, hblank11.blankLines hc, fun j hj => ?_, hblank10.blankLines hc⟩
  · have h := hblank16.blankLines hc l j hl hj
    rwa [Nat.zero_add] at h
  · have h := hblank1.blankLines hc 0 j Nat.one_pos hj
    rwa [Nat.zero_mul, Nat.add_zero] at h

/-! ### The table invariants -/

/-- A sample of a half-line is `SYNC` or `BLANK` (R124, R125). -/
theorem eq_of_mem_halfLine {c : Config} {l : List Sample} (h : c.HalfLine l) {v : Sample} (hv : v ∈ l) :
    v = c.sync ∨ v = c.blank := by
  simpa using List.all_eq_true.mp h.2 v hv

theorem eq_of_mem_blankLine {c : Config} {v : Sample} (hv : v ∈ blankLine c) :
    v = c.sync ∨ v = c.blank :=
  (List.mem_append.mp hv).imp List.eq_of_mem_replicate List.eq_of_mem_replicate

theorem eq_of_mem_mixedLine {c : Config} (he : c.HalfLine c.eqHalf) {v : Sample} (hv : v ∈ mixedLine c) :
    v = c.sync ∨ v = c.blank := by
  rcases List.mem_append.mp hv with h | h
  · exact (List.mem_append.mp h).imp List.eq_of_mem_replicate List.eq_of_mem_replicate
  · exact eq_of_mem_halfLine he h

/-- Every sample of both tables is `SYNC` or `BLANK` (R129): every segment of both has only such samples. -/
theorem eq_of_mem_tables {c : Config} (hc : c.WF) {v : Sample} (hv : v ∈ ttOdd c ∨ v ∈ ttEven c) :
    v = c.sync ∨ v = c.blank := by
  obtain ⟨-, -, -, -, ⟨he, -⟩, ⟨hs, -⟩⟩ := hc
  have hblank {n} (h : v ∈ rep n (blankLine c)) := eq_of_mem_blankLine (mem_of_mem_rep h)
  have heq {n} (h : v ∈ rep n c.eqHalf) := eq_of_mem_halfLine he (mem_of_mem_rep h)
  have hserr {n} (h : v ∈ rep n c.serrHalf) := eq_of_mem_halfLine hs (mem_of_mem_rep h)
  rcases hv with hv | hv
  · simp only [ttOdd, List.mem_append] at hv
    rcases hv with ((((h | h) | h) | h) | h) | h
    exacts [hblank h, heq h, hserr h, heq h, hblank h, hblank h]
  · simp only [ttEven, List.mem_append] at hv
    rcases hv with ((((((h | h) | h) | h) | h) | h) | h) | h
    exacts [hblank h, eq_of_mem_mixedLine he h, heq h, hserr h, heq h, hblank h, hblank h, hblank h]

/-- A list whose first segment is blank lines begins with sync samples (R121). -/
theorem SegmentAt.first_sync {c : Config} (hc : c.WF) {t : List Sample} {n i : Nat}
    (h : SegmentAt t 0 (rep n (blankLine c))) (hn : 0 < n) (hi : i < 4) : t[i]? = some c.sync := by
  obtain ⟨-, ⟨-, hR, -⟩, -⟩ := id hc
  have hfirst := h.blankLines hc 0 i hn (by omega)
  rwa [Nat.zero_mul, Nat.add_zero, Nat.zero_add, if_pos hi] at hfirst

/-- A list whose last segment is blank lines ends with a blank sample (R121). -/
theorem SegmentAt.last_blank {c : Config} (hc : c.WF) {t : List Sample} {off n : Nat}
    (h : SegmentAt t off (rep (n + 1) (blankLine c))) (hlen : t.length = off + (n + 1) * c.R) :
    t.getLast? = some c.blank := by
  obtain ⟨-, ⟨-, hR, -⟩, -⟩ := id hc
  have hlast := h.blankLines hc n (c.R - 1) (Nat.lt_succ_self n) (by omega)
  rw [if_neg (by omega)] at hlast
  rw [List.getLast?_eq_getElem?, hlen, ← hlast, Nat.succ_mul]
  congr 1
  omega

/-- Settles O10: the ends are read off the first and the last segment; no step changes the configuration the
tables are made of. -/
theorem tableInvariants : Obligations.TableInvariants := by
  refine ⟨fun c hc => ?_, fun s t hstep => ?_⟩
  · have hodd := length_ttOdd hc
    have heven := length_ttEven hc
    obtain ⟨hoddFirst, -, -, -, -, hoddLast⟩ := ttOdd_segments hc
    obtain ⟨hevenFirst, -, -, -, -, -, -, hevenLast⟩ := ttEven_segments hc
    refine ⟨hodd, heven, fun v hv => ?_, fun i hi => ?_, ?_, ?_⟩
    · have hlevel := eq_of_mem_tables hc hv
      obtain ⟨-, -, -, ⟨hsync, hblank, hblack⟩, -⟩ := hc
      refine ⟨hlevel, ?_⟩
      rcases hlevel with rfl | rfl <;> omega
    · exact ⟨hoddFirst.first_sync hc (by decide) hi, hevenFirst.first_sync hc (by decide) hi⟩
    · exact hoddLast.last_blank hc (by rw [hodd, Config.lenOdd]; omega)
    · exact hevenLast.last_blank hc (by rw [heven, Config.lenEven]; omega)
  · rw [configurationIsFixed.1 s t hstep]
    exact ⟨rfl, rfl⟩

/-! ### One beat of a table descriptor -/

/-- The end of a beat moves the position as R163 and R164 say. -/
theorem State.endBeat_moved (b : Bool) (next : Reg) (s : State) : Moved b next s (s.endBeat b next) := by
  refine ⟨fun hmore => ?_, fun hlast => ?_⟩
  · rw [endBeat_of_more hmore]
    exact ⟨rfl, by bv_omega, rfl, rfl⟩
  · rw [endBeat_of_last hlast]
    cases hd : s.chain.read next.toNat with
    | some d =>
      rw [advance_of_read hd]
      exact ⟨rfl, fun d' hd' => by cases hd'; exact ⟨rfl, rfl, rfl⟩⟩
    | none =>
      rw [advance_of_undef hd]
      exact ⟨rfl, fun d' hd' => by cases hd'⟩

/-- A well-formed video beat with a source element writes it to the DAC and moves the position; nothing else
changes (R163). -/
theorem videoBeat_completes (v : Sample) (next : Reg) (s : State) :
    ∃ t, videoBeat true (some v) next s = .next t ∧
      t = { s with dacOut := v, dacWr := true, trace := .dac v :: s.trace, didx := t.didx,
                   bcnt := t.bcnt, sptr := t.sptr, draws := t.draws } ∧
      Moved true next s t :=
  ⟨_, videoBeat_some v next s, State.endBeat_eq true next (s.dacWrite v),
    State.endBeat_moved true next (s.dacWrite v)⟩

/-- Settles O24: with the prescribed COUNT and NEXT the descriptor is well-formed, and its table has a sample
at `SPTR`. -/
theorem xferTableBeats : Obligations.XferTableBeats := by
  intro s count next hc hnext
  refine ⟨fun hcount hsptr => ?_, fun hcount hsptr => ?_⟩
  · have hwf : Instr.wellFormed s.cfg (.xferTtOdd count next) = true := decide_eq_true ⟨hcount, hnext⟩
    have hv := List.getElem?_eq_getElem (l := ttOdd s.cfg) (by rw [length_ttOdd hc]; exact hsptr)
    obtain ⟨t, ht, hframe, hmoved⟩ := videoBeat_completes _ next s
    exact ⟨_, t, hv, by rw [exec_xferTtOdd, hwf, ttRead, hv, ht], hframe, hmoved⟩
  · have hwf : Instr.wellFormed s.cfg (.xferTtEven count next) = true := decide_eq_true ⟨hcount, hnext⟩
    have hv := List.getElem?_eq_getElem (l := ttEven s.cfg) (by rw [length_ttEven hc]; exact hsptr)
    obtain ⟨t, ht, hframe, hmoved⟩ := videoBeat_completes _ next s
    exact ⟨_, t, hv, by rw [exec_xferTtEven, hwf, ttRead, hv, ht], hframe, hmoved⟩

end Sys2Proof.Machine

/-! The frame buffer as the host draws it (41_frame_buffer.md): the rotations and the store offset of SET_PIXEL
(R143, R145, R151), the quantisation (R144), SET_PIXEL itself (R142, R148), a beat of XFER_ROW (R147), the
levels of the buffer (R141), and CLEAR from its acceptance to the black frame (R146, R149). -/

namespace Sys2Proof.Machine

/-! ### The levels of the buffer (R141) -/

/-- `BufferOk` speaks of the configuration and the buffer alone. -/
theorem BufferOk.of_sameBuffer {s t : State} (h : BufferOk s) (e : SameBuffer s t) : BufferOk t := by
  unfold BufferOk
  rw [e.cfg, e.fb]
  exact h

/-- A store of a level of the signal, at whatever address. -/
theorem BufferOk.write {s : State} {a : Nat} {v : Sample} (h : BufferOk s)
    (hv : s.cfg.sync.toNat ≤ v.toNat ∧ v.toNat ≤ s.cfg.white.toNat) :
    BufferOk { s with fb := s.fb.write a v } := by
  intro o ho
  change ∃ u, (s.fb.write a v).read o = some u ∧ _
  by_cases hao : a = o
  · subst hao
    exact ⟨v, Memory.read_write_same .., hv⟩
  · rw [Memory.read_write_other _ _ hao]
    exact h o ho

theorem State.beginSuccess_bufferOk {s : State} (hc : s.cfg.WF) : BufferOk s.beginSuccess :=
  fun o ho => ⟨_, (blackFrame_read s.cfg o).trans (if_pos ho), activeSample_mem_levels hc _⟩

/-- A store of a CLEAR puts a sample of `ACTIVE_LINE` (R149). -/
theorem BufferOk.clearStore {s : State} (h : BufferOk s) (hc : s.cfg.WF) (k : Nat) :
    BufferOk (s.clearStore k) := by
  rcases s.clearStore_cases k with ⟨-, e⟩ | ⟨-, -, e⟩ | ⟨-, o, -, e⟩ <;> rw [e]
  · exact h
  · exact h.of_sameBuffer ⟨by simp, by simp, by simp⟩
  · have hv := activeSample_mem_levels hc (o % s.cfg.R)
    exact (h.write (a := o) hv).of_sameBuffer ⟨by simp, by simp, by simp⟩

/-- Of the effects of a step only BEGIN, SET_PIXEL and a store of a CLEAR write the buffer, each with levels
of the signal; reset clears `BEGUN`. -/
theorem StepEffect.bufferOk {s t : State} {x : Setting} (e : StepEffect s x t) (hc : s.cfg.WF)
    (h : s.begun = true → BufferOk s) (ht : t.begun = true) : BufferOk t := by
  cases e with
  | begin => exact State.beginSuccess_bufferOk (s := s.withSetting x) hc
  | setPixel _ hbegun => exact (h hbegun).write (quantize_mem_levels hc _)
  | clearStore k =>
    have hx : BufferOk (s.withSetting x) := h (by simpa using ht)
    exact hx.clearStore hc k
  | reset => cases ht
  | beat => exact (h (by simpa using ht)).of_sameBuffer ⟨by simp, by simp, by simp⟩
  | _ => exact h ht

/-- Settles O19: in a run R141 is a clause of the invariant; alone it is kept effect by effect. -/
theorem bufferLevelsKept : Obligations.BufferLevelsKept := by
  refine ⟨fun c s hc hreach => (hreach.inv hc).buffer, fun s t h hstep => ?_⟩
  obtain ⟨x, -, e⟩ := step_effect hstep
  exact e.bufferOk (step_cases hstep).1 h

/-! ### One store of a CLEAR (R146, R149) -/

/-- With nothing pending the CLEAR is over and responds `OK` (R146). -/
theorem State.clearFinish_of_nil {s : State} (h : s.clrPend = []) :
    s.clearFinish = State.respond statusOk 0 { s with clrBusy := false, slot := s.slot.afterHost } :=
  if_pos h

theorem State.clearFinish_of_ne {s : State} (h : s.clrPend ≠ []) : s.clearFinish = s := if_neg h

/-- The response `OK` without data, field by field (R216). -/
theorem State.respond_ok (s : State) :
    s.respond statusOk 0 = { s with rsp := 0, rspValid := true, trace := .rsp 0 :: s.trace } := rfl

/-- The offset that leaves the pending set is the one the store goes to. -/
theorem mem_eraseIdx_of_ne {l : List Nat} {i o a : Nat} (ho : l[i]? = some o) (ha : a ∈ l) (hne : a ≠ o) :
    a ∈ l.eraseIdx i := by
  obtain ⟨j, hj⟩ := List.mem_iff_getElem?.mp ha
  refine List.mem_eraseIdx_iff_getElem?.mpr ⟨j, ?_, hj⟩
  rintro rfl
  exact hne (Option.some.inj (hj.symm.trans ho))

/-- In a set no other offset leaves with it. -/
theorem mem_eraseIdx_iff_ne {l : List Nat} {i o : Nat} (hl : l.Nodup) (ho : l[i]? = some o) (a : Nat) :
    a ∈ l.eraseIdx i ↔ a ∈ l ∧ a ≠ o := by
  obtain ⟨hi, rfl⟩ := List.getElem?_eq_some_iff.mp ho
  rw [← hl.erase_getElem i hi, hl.mem_erase_iff, and_comm]

/-- While offsets are pending, a store move stores `ACTIVE_LINE` at one of them and removes it; then the CLEAR
is over if it was the last (R149). -/
theorem State.clearStore_of_pending {s : State} (k : Nat) (hb : s.clrBusy = true) (hne : s.clrPend ≠ []) :
    ∃ o, s.clrPend[k % s.clrPend.length]? = some o ∧
      s.clearStore k = State.clearFinish
        { s with fb := s.fb.write o (activeSample s.cfg (o % s.cfg.R)),
                 clrPend := s.clrPend.eraseIdx (k % s.clrPend.length) } := by
  rcases s.clearStore_cases k with ⟨hb', -⟩ | ⟨-, hnil, -⟩ | ⟨-, o, ho, e⟩
  · rw [hb] at hb'
    cases hb'
  · exact absurd hnil hne
  · exact ⟨o, ho, e⟩

theorem EdgeSlot.afterHost_eq (sl : EdgeSlot) :
    sl.afterHost = if sl = .engineDone then .fresh else .hostDone := by cases sl <;> rfl

/-- Settles O21: the store takes a pending offset and no other leaves the pending set; the state after it is
`clearFinish` of that. -/
theorem clearStoresOneElement : Obligations.ClearStoresOneElement := by
  intro s hb hnodup
  refine ⟨fun a ha => ?_, fun k hne => ?_⟩
  · obtain ⟨k, hk, hget⟩ := List.mem_iff_getElem.mp ha
    obtain ⟨o, ho, e⟩ := s.clearStore_of_pending k hb (List.ne_nil_of_mem ha)
    rw [Nat.mod_eq_of_lt hk] at ho e
    have hoa : o = a := by rw [List.getElem?_eq_getElem hk, hget] at ho; exact (Option.some.inj ho).symm
    refine ⟨k, fun hmem => ?_⟩
    rw [e, State.clearFinish_clrPend] at hmem
    exact ((mem_eraseIdx_iff_ne hnodup ho a).mp hmem).2 hoa.symm
  · obtain ⟨o, ho, e⟩ := s.clearStore_of_pending k hb hne
    have hpend : (s.clearStore k).clrPend = s.clrPend.eraseIdx (k % s.clrPend.length) := by rw [e]; simp
    have hfb : (s.clearStore k).fb = s.fb.write o (activeSample s.cfg (o % s.cfg.R)) := by rw [e]; simp
    refine ⟨o, List.mem_of_getElem? ho, ?_, fun a ha => ?_, fun a => ?_, fun hmore => ?_, fun hlast => ?_⟩
    · rw [hfb, Memory.read_write_same]
    · rw [hfb, Memory.read_write_other _ _ ha.symm]
    · rw [hpend]
      exact mem_eraseIdx_iff_ne hnodup ho a
    · rw [hfb, hpend, e]
      exact State.clearFinish_of_ne (hpend ▸ hmore)
    · rw [hfb, e, State.clearFinish_of_nil (hpend ▸ hlast), EdgeSlot.afterHost_eq, State.respond_ok,
        ← hpend, hlast]

/-! ### A CLEAR in progress (R146, R149) -/

section
variable (d : Word) (v : Sample) (s : State)

@[simp] theorem writeDestination_clrBusy : (writeDestination d v s).clrBusy = s.clrBusy := by
  unfold writeDestination; split <;> rfl
@[simp] theorem writeDestination_clrPend : (writeDestination d v s).clrPend = s.clrPend := by
  unfold writeDestination; split <;> rfl

end

/-- A store of `ACTIVE_LINE` at the offset that leaves the pending set. -/
theorem ClearProgress.store {s : State} (h : ClearProgress s) {i o : Nat} (ho : s.clrPend[i]? = some o) :
    ClearProgress { s with fb := s.fb.write o (activeSample s.cfg (o % s.cfg.R)),
                           clrPend := s.clrPend.eraseIdx i } := by
  intro hb a ha hdone
  change (s.fb.write o _).read a = _
  by_cases hoa : o = a
  · subst hoa
    exact Memory.read_write_same ..
  · rw [Memory.read_write_other _ _ hoa]
    exact h hb a ha fun hmem => hdone (mem_eraseIdx_of_ne ho hmem (Ne.symm hoa))

/-- After the last store no CLEAR is in progress. -/
theorem ClearProgress.clearFinish {s : State} (h : ClearProgress s) : ClearProgress s.clearFinish := by
  by_cases hnil : s.clrPend = []
  · rw [State.clearFinish_of_nil hnil]
    exact nofun
  · rw [State.clearFinish_of_ne hnil]
    exact h

theorem ClearProgress.clearStore {s : State} (h : ClearProgress s) (k : Nat) :
    ClearProgress (s.clearStore k) := by
  rcases s.clearStore_cases k with ⟨-, e⟩ | ⟨-, -, e⟩ | ⟨-, o, ho, e⟩ <;> rw [e]
  · exact h
  · exact h.clearFinish
  · exact (h.store ho).clearFinish

/-- At its acceptance every offset is pending (R146). -/
theorem State.clearStart_clearProgress (s : State) : ClearProgress s.clearStart :=
  fun _ _ ho hdone => absurd (List.mem_range.mpr ho) hdone

theorem ClearProgress.of_ready {s : State} (h : s.clrBusy = false) : ClearProgress s :=
  fun hb => absurd (h.symm.trans hb) Bool.false_ne_true

/-- While a CLEAR is in progress the port accepts neither BEGIN nor SET_PIXEL, and the engine writes no
buffer (R12, R149). -/
theorem StepEffect.clearProgress {s t : State} {x : Setting} (e : StepEffect s x t) (h : ClearProgress s) :
    ClearProgress t := by
  cases e with
  | begin hacc => exact .of_ready hacc.1
  | setPixel hacc => exact .of_ready hacc.1
  | clear => exact State.clearStart_clearProgress _
  | clearStore k =>
    have hx : ClearProgress (s.withSetting x) := h
    exact hx.clearStore k
  | reset => exact .of_ready rfl
  | beat => simpa [ClearProgress] using h
  | _ => exact h

/-- Settles O22, effect by effect. -/
theorem clearProgressKept : Obligations.ClearProgressKept := by
  intro s t h hstep
  obtain ⟨x, -, e⟩ := step_effect hstep
  exact e.clearProgress h

/-! ### The end of a CLEAR (R146) -/

/-- A CLEAR ends by a store of its own or by reset. -/
theorem StepEffect.clearStore_of_ends {s t : State} {x : Setting} (e : StepEffect s x t)
    (hbusy : s.clrBusy = true) (hend : t.clrBusy = false) (hbegun : t.begun = true) :
    ∃ k, t = (s.withSetting x).clearStore k := by
  have hchanged : t.clrBusy ≠ s.clrBusy := by rw [hbusy, hend]; exact Bool.false_ne_true
  cases e with
  | clearStore k => exact ⟨k, rfl⟩
  | reset => cases hbegun
  | clear => cases hend
  | beat => exact absurd (by simp) hchanged
  | _ => exact absurd rfl hchanged

/-- The response of the last store is `OK`, and with nothing pending every element holds `ACTIVE_LINE`. -/
theorem ClearProgress.black_of_clearFinish {s : State} (h : ClearProgress s) (hb : s.clrBusy = true)
    (hend : s.clearFinish.clrBusy = false) :
    s.clearFinish.rspValid = true ∧ s.clearFinish.rsp = 0 ∧
      ∀ o, o < s.cfg.fbSize → s.clearFinish.fb.read o = some (activeSample s.cfg (o % s.cfg.R)) := by
  by_cases hnil : s.clrPend = []
  · rw [State.clearFinish_of_nil hnil]
    exact ⟨rfl, rfl, fun o ho => h hb o ho (hnil ▸ List.not_mem_nil)⟩
  · rw [State.clearFinish_of_ne hnil, hb] at hend
    cases hend

theorem ClearProgress.black_of_clearStore {s : State} (h : ClearProgress s) {k : Nat} (hb : s.clrBusy = true)
    (hend : (s.clearStore k).clrBusy = false) :
    (s.clearStore k).rspValid = true ∧ (s.clearStore k).rsp = 0 ∧
      ∀ o, o < s.cfg.fbSize → (s.clearStore k).fb.read o = some (activeSample s.cfg (o % s.cfg.R)) := by
  rcases s.clearStore_cases k with ⟨hb', -⟩ | ⟨-, -, e⟩ | ⟨-, o, ho, e⟩
  · rw [hb] at hb'
    cases hb'
  · rw [e] at hend ⊢
    exact h.black_of_clearFinish hb hend
  · rw [e] at hend ⊢
    exact (h.store ho).black_of_clearFinish hb hend

/-- A canonical buffer with `ACTIVE_LINE` in every row and nothing behind it is the black frame. -/
theorem State.Inv.fb_eq_blackFrame {s : State} (h : s.Inv)
    (hblack : ∀ o, o < s.cfg.fbSize → s.fb.read o = some (activeSample s.cfg (o % s.cfg.R))) :
    s.fb = blackFrame s.cfg := by
  refine Memory.ext_of_read h.fbCanonical (blackFrame_wf _) fun a => ?_
  rw [blackFrame_read]
  split_ifs with ha
  · exact hblack a ha
  · exact h.fbInside a (not_lt.mp ha)

/-- The black frame by row and column (R122, R146). -/
theorem blackFrame_read_row {c : Config} {row col : Nat} (hrow : row < height) (hcol : col < c.R) :
    (blackFrame c).read (row * c.R + col) = some (activeSample c col) := by
  have hinside : row * c.R + col < c.fbSize :=
    calc row * c.R + col < row * c.R + c.R := Nat.add_lt_add_left hcol _
      _ = (row + 1) * c.R := (Nat.succ_mul row c.R).symm
      _ ≤ height * c.R := Nat.mul_le_mul_right _ hrow
  rw [blackFrame_read, if_pos hinside, Nat.mul_add_mod_self_right, Nat.mod_eq_of_lt hcol]

/-- Settles O23: the step is the last store of the CLEAR, so `ClearProgress` says that every element holds
`ACTIVE_LINE`, and the invariant that there is nothing else. -/
theorem clearEndsInBlackFrame : Obligations.ClearEndsInBlackFrame := by
  intro s t hinv hprog hbusy hstep hend hbegun
  obtain ⟨x, -, e⟩ := step_effect hstep
  have hcfg := e.cfg
  have htinv := hinv.stepEffect e
  have hx : ClearProgress (s.withSetting x) := hprog
  obtain ⟨k, rfl⟩ := e.clearStore_of_ends hbusy hend hbegun
  obtain ⟨hvalid, hrsp, hblack⟩ := hx.black_of_clearStore hbusy hend
  have hframe := htinv.fb_eq_blackFrame (by rw [hcfg]; exact hblack)
  rw [hcfg] at hframe
  refine ⟨hframe, hvalid, hrsp, fun row col hrow hcol => ?_⟩
  rw [hframe]
  exact blackFrame_read_row hrow hcol

/-! ### The quantisation (R144) -/

theorem black_add_span {c : Config} (hc : c.WF) : c.black.toNat + c.span = c.white.toNat := by
  obtain ⟨-, -, -, ⟨-, -, hlevels⟩, -⟩ := hc
  exact Nat.add_sub_cancel' hlevels.le

/-- The quotient never exceeds the span. -/
theorem mul_span_div_le (c : Config) (b : Byte) : b.toNat * c.span / 255 ≤ c.span :=
  Nat.div_le_of_le_mul (Nat.mul_le_mul_right _ (Nat.le_of_lt_succ b.isLt))

/-- The sum does not wrap: it is at most `WHITE`. -/
theorem toNat_quantize {c : Config} (hc : c.WF) (b : Byte) :
    (quantize c b).toNat = c.black.toNat + b.toNat * c.span / 255 := by
  have hspan := black_add_span hc
  have hle := mul_span_div_le c b
  rw [quantize, BitVec.toNat_ofNat, Nat.mod_eq_of_lt (by omega)]

/-- Settles O13: without a wrap the quantisation is the formula, whose properties are those of `Nat` division. -/
theorem quantizeLaw : Obligations.QuantizeLaw := by
  intro c hc
  have hq := toNat_quantize hc
  have hspan := black_add_span hc
  refine ⟨hq, ?_, ?_, fun a b hab => ?_, fun b => ?_, fun b => ?_⟩
  · refine BitVec.eq_of_toNat_eq ?_
    simp [hq]
  · refine BitVec.eq_of_toNat_eq ?_
    simp [hq, hspan]
  · rw [hq, hq]
    exact Nat.add_le_add_left (Nat.div_le_div_right (Nat.mul_le_mul_right _ hab)) _
  · have hle := mul_span_div_le c b
    rw [hq]
    omega
  · calc b.toNat * (c.white.toNat - c.black.toNat) < 2 ^ 8 * 2 ^ 16 :=
          Nat.mul_lt_mul'' b.isLt (by omega)
      _ = 2 ^ 24 := rfl

/-! ### The rotations and the store offset (R143, R145, R151) -/

/-- A logical point rotates into the physical rectangle, and `unrotate` brings it back (R143, R151). -/
theorem rotate_spec {c : Config} {rot : Rotation} {x y : Nat} (hx : x < (logicalSize c rot).1)
    (hy : y < (logicalSize c rot).2) :
    (rotate c rot x y).1 < c.W ∧ (rotate c rot x y).2 < height ∧
      unrotate c rot (rotate c rot x y).1 (rotate c rot x y).2 = (x, y) := by
  cases rot with
  | deg0 => exact ⟨hx, hy, rfl⟩
  | deg90 | deg180 | deg270 =>
    simp only [logicalSize, rotate, unrotate, Prod.mk.injEq, true_and, and_true] at *
    omega

theorem unrotate_spec {c : Config} {x y : Nat} (rot : Rotation) (hx : x < c.W) (hy : y < height) :
    (unrotate c rot x y).1 < (logicalSize c rot).1 ∧ (unrotate c rot x y).2 < (logicalSize c rot).2 ∧
      rotate c rot (unrotate c rot x y).1 (unrotate c rot x y).2 = (x, y) := by
  cases rot with
  | deg0 => exact ⟨hx, hy, rfl⟩
  | deg90 | deg180 | deg270 =>
    simp only [logicalSize, rotate, unrotate, Prod.mk.injEq, true_and, and_true] at *
    omega

/-- Settles O12: the tables are the definitions, and each mapping undoes the other. -/
theorem rotationRoundTrip : Obligations.RotationRoundTrip :=
  ⟨fun _ _ _ => ⟨rfl, rfl, rfl, rfl, rfl, rfl, rfl, rfl, rfl, rfl, rfl, rfl⟩,
    fun _ rot => ⟨fun _ _ => rotate_spec, fun _ _ => unrotate_spec rot⟩⟩

/-- The window lies inside the line, so a store stays in the row of its rotated point (R8, R145). -/
theorem pixelOffset_lt_row_end {c : Config} (hc : c.WF) {rot : Rotation} {x y : Nat}
    (hx : x < (logicalSize c rot).1) (hy : y < (logicalSize c rot).2) :
    pixelOffset c rot x y < (rotate c rot x y).2 * c.R + c.R := by
  obtain ⟨⟨-, -, hXW⟩, -⟩ := hc
  obtain ⟨hx', -, -⟩ := rotate_spec hx hy
  unfold pixelOffset
  omega

/-- A store stays in the buffer (R61, R145). -/
theorem pixelOffset_lt_fbSize {c : Config} (hc : c.WF) {rot : Rotation} {x y : Nat}
    (hx : x < (logicalSize c rot).1) (hy : y < (logicalSize c rot).2) :
    pixelOffset c rot x y < c.fbSize := by
  obtain ⟨-, hy', -⟩ := rotate_spec hx hy
  calc pixelOffset c rot x y < (rotate c rot x y).2 * c.R + c.R := pixelOffset_lt_row_end hc hx hy
    _ = ((rotate c rot x y).2 + 1) * c.R := (Nat.succ_mul _ _).symm
    _ ≤ height * c.R := Nat.mul_le_mul_right _ hy'

/-- Settles O14: the rotated point lies in the window, which lies inside the line. -/
theorem pixelOffsetInRow : Obligations.PixelOffsetInRow := by
  refine ⟨fun c x y _ => ⟨fun _ _ => rfl, fun _ _ => rfl, fun _ _ => rfl, fun _ _ => rfl⟩,
    fun c rot x y hc hx hy => ?_⟩
  have hrow := pixelOffset_lt_row_end hc hx hy
  have hin : pixelOffset c rot x y < 24 * c.R := pixelOffset_lt_fbSize hc hx hy
  obtain ⟨-, ⟨-, -, hR⟩, -⟩ := hc
  exact ⟨rfl, Nat.le_add_right _ _, by omega, hin, by omega⟩

/-! ### SET_PIXEL and CLEAR by cases (R142, R146, R148) -/

theorem exec_setPixel_of_not_begun {rot : Rotation} {x y : Reg} {b : Byte} {s : State}
    (h : s.begun = false) : exec (.setPixel rot x y b) s = beforeBegin s := by
  simp [exec, execSetPixel, h]

theorem exec_setPixel_of_clipped {rot : Rotation} {x y : Reg} {b : Byte} {s : State} (h : s.begun = true)
    (hclip : clipped s.cfg rot x.toInt y.toInt = true) :
    exec (.setPixel rot x y b) s = .next (s.respond statusOk 0) := by
  simp [exec, execSetPixel, h, hclip]

theorem exec_setPixel_of_inside {rot : Rotation} {x y : Reg} {b : Byte} {s : State} (hc : s.cfg.WF)
    (h : s.begun = true) (hclip : clipped s.cfg rot x.toInt y.toInt = false) :
    exec (.setPixel rot x y b) s = .next (State.respond statusOk 0
      { s with fb := s.fb.write (pixelOffset s.cfg rot x.toNat y.toNat) (quantize s.cfg b) }) := by
  obtain ⟨hx, hy⟩ := lt_logicalSize_of_not_clipped hclip
  simp [exec, execSetPixel, h, hclip, pixelStore, pixelOffset_lt_fbSize hc hx hy]

theorem exec_clear_of_not_begun {s : State} (h : s.begun = false) : exec .clear s = beforeBegin s := by
  simp [exec, execClear, h]

theorem exec_clear_of_begun {s : State} (h : s.begun = true) : exec .clear s = .next s.clearStart := by
  simp [exec, execClear, h]

/-- A draw before BEGIN is a no-op (R148). -/
theorem beforeBegin_of_noop {s : State} (h : s.cfg.earlyDraw = .noop) :
    beforeBegin s = .next (s.respond statusOk 0) := by
  rw [beforeBegin, h]

/-- A draw before BEGIN stops under the other value of the parameter (U4). -/
theorem beforeBegin_of_fault {s : State} (h : s.cfg.earlyDraw = .fault) :
    beforeBegin s = .fault .earlyDraw := by
  rw [beforeBegin, h]

/-- Settles O15: each clause is one case of SET_PIXEL; inside the picture signed and unsigned coordinates
agree. -/
theorem setPixelResult : Obligations.SetPixelResult := by
  intro s rot x y b hc
  refine ⟨fun hbegun hnoop => ?_, fun hbegun hout => ?_, fun hbegun hx0 hy0 hx hy => ?_⟩
  · rw [exec_setPixel_of_not_begun hbegun, beforeBegin_of_noop hnoop, State.respond_ok]
  · rw [exec_setPixel_of_clipped hbegun (decide_eq_true hout), State.respond_ok]
  · have hclip : clipped s.cfg rot x.toInt y.toInt = false := decide_eq_false (by omega)
    rw [toInt_eq_toNat_of_nonneg hx0, toInt_eq_toNat_of_nonneg hy0, Int.toNat_natCast, Int.toNat_natCast]
    exact ⟨_, exec_setPixel_of_inside hc hbegun hclip, rfl, Memory.read_write_same ..,
      fun a ha => Memory.read_write_other _ _ ha.symm⟩

/-- Settles O16: both draws do what `beforeBegin` says for the value of the parameter. -/
theorem drawBeforeBegin : Obligations.DrawBeforeBegin := by
  intro s i hbegun hi
  have hexec : exec i s = beforeBegin s := by
    rcases hi with rfl | ⟨rot, x, y, b, rfl⟩
    · exact exec_clear_of_not_begun hbegun
    · exact exec_setPixel_of_not_begun hbegun
  rw [hexec]
  exact ⟨beforeBegin_of_noop, beforeBegin_of_fault⟩

/-- A port that is not ready ignores what is presented (R12, R149). -/
theorem presentCommand_of_busy {s : State} (w : Word) (dma mem : Bool) (h : s.clrBusy = true) :
    presentCommand w dma mem s = .next s := if_pos h

/-- Settles O20: after BEGIN a CLEAR only starts, and a busy port takes no command. -/
theorem clearIsAccepted : Obligations.ClearIsAccepted := fun _ hbegun =>
  ⟨_, exec_clear_of_begun hbegun, rfl, rfl, fun _ => rfl,
    fun _ w dma mem hready => presentCommand_of_busy w dma mem (by simpa [State.cmdReady] using hready)⟩

/-! ### One beat of XFER_ROW (R147) -/

/-- Settles O25: with the prescribed COUNT, SRCOFF and NEXT the descriptor is well-formed, and the buffer has
a value at `SPTR`. -/
theorem xferRowBeat : Obligations.XferRowBeat := by
  intro s count srcoff next row v _ hcount hrow hsrc hnext hsptr hv
  have hrowOk : RowOk s.cfg srcoff := (rowOk_iff _ _).mpr ⟨row, hrow, hsrc⟩
  have hwf : Instr.wellFormed s.cfg (.xferRow count srcoff next) = true :=
    decide_eq_true ⟨hcount, hrowOk, hnext⟩
  have hread : fbRead s s.sptr.toNat = some v := (if_pos hsptr).trans hv
  rw [exec_xferRow, hwf, hread]
  exact videoBeat_completes v next s

end Sys2Proof.Machine

/-! The descriptor chain and its beats (42_descriptor_chain.md): the beat by the fields of the word, what a beat
leaves as it is, the advance, and the built chain index by index. -/

namespace Sys2Proof.Machine

/-! ### The beat by the fields of the word (R163) -/

/-- A descriptor that is `undef`, or whose index is outside the chain, is the engine fault (R222). -/
theorem beat_of_undef {s : State} (hf : fetchDescriptor s = none) : beat s = .next s.engineFault := by
  rw [beat, hf]

/-- An illegal descriptor word is the engine fault (R222). -/
theorem beat_of_illegal {s : State} {d : Word} {e : DecodeError} (hf : fetchDescriptor s = some d)
    (hD : decodeD s.cfg d = .error e) : beat s = .next s.engineFault := by
  cases hd : decodeDescriptor d with
  | error => simp only [beat, hf, hd]
  | ok i =>
    have hwf : i.wellFormed s.cfg = false := by
      by_contra hne
      have hok := (decodeD_ok_iff _ _ _).mpr ⟨hd, Bool.eq_true_of_not_eq_false hne⟩
      rw [hD] at hok
      cases hok
    simp only [beat, hf, hd, exec_of_not_wellFormed (decodeDescriptor_isDescriptor hd) hwf]

/-- The beat of a well-formed current descriptor whose source element is `v` (R163). -/
theorem beat_of_source_some {s : State} {d : Word} {i : Instr} {v : Sample} (hf : fetchDescriptor s = some d)
    (hD : decodeD s.cfg d = .ok i) (hv : sourceElement s d = some v) :
    beat s = .next ((writeDestination d v s).endBeat (dSrcinc d = 1) (dNext d)) := by
  rw [beat_of_current hf hD, exec_of_source_some hD hv]

/-- The beat of the machine is R163's, in every state. -/
theorem beat_eq_fieldBeat (s : State) : beat s = .next (fieldBeat s) := by
  unfold fieldBeat
  cases hf : fetchDescriptor s with
  | none => exact beat_of_undef hf
  | some d =>
    cases hD : decodeD s.cfg d with
    | error e => simp only [hD, beat_of_illegal hf hD]
    | ok i =>
      cases hv : sourceElement s d with
      | none => simp only [hD, hv, beat_of_current hf hD, exec_of_source_none hD hv]
      | some v => simp only [hD, hv, beat_of_source_some hf hD hv]

/-- The edge on which the divider is full is a pixel tick with one beat (R181). -/
theorem clockEdge_of_tick {s : State} (hrun : s.run = true) (hdiv : s.div.toNat + 1 = s.cfg.P) :
    clockEdge s = beat s.tickStart := by
  rw [clockEdge, if_pos hrun, if_pos hdiv]

/-- Every other edge of a running engine counts (R181). -/
theorem clockEdge_of_count {s : State} (hrun : s.run = true) (hdiv : s.div.toNat + 1 ≠ s.cfg.P) :
    clockEdge s = .next s.countEdge := by
  rw [clockEdge, if_pos hrun, if_neg hdiv]

/-- Settles O30: the beat is R163's, and a tick performs one. -/
theorem beatFollowsItsFields : Obligations.BeatFollowsItsFields :=
  ⟨beat_eq_fieldBeat, fun s hrun hdiv => (clockEdge_of_tick hrun hdiv).trans (beat_eq_fieldBeat s.tickStart)⟩

/-! ### What a beat leaves as it is (R163) -/

section
variable (d : Word) (v : Sample) (s : State)

@[simp] theorem writeDestination_didx : (writeDestination d v s).didx = s.didx := by
  unfold writeDestination; split <;> rfl
@[simp] theorem writeDestination_bcnt : (writeDestination d v s).bcnt = s.bcnt := by
  unfold writeDestination; split <;> rfl
@[simp] theorem writeDestination_sptr : (writeDestination d v s).sptr = s.sptr := by
  unfold writeDestination; split <;> rfl
@[simp] theorem writeDestination_chain : (writeDestination d v s).chain = s.chain := by
  unfold writeDestination; split <;> rfl

end

/-- Whatever the beat of a descriptor does, the fault included, it changes no element but these. -/
theorem exec_descriptor_frame {i : Instr} {s t : State} (hi : i.isDescriptor = true) (h : exec i s = .next t) :
    t = { s with dacOut := t.dacOut, dacWr := t.dacWr, trace := t.trace, fieldLatch := t.fieldLatch,
                 didx := t.didx, bcnt := t.bcnt, sptr := t.sptr, draws := t.draws, fault := t.fault,
                 run := t.run } := by
  rcases exec_descriptor_cases hi h with ⟨v, n, rfl⟩ | ⟨b, n, -, rfl⟩ | rfl
  · rw [State.endBeat_eq]; rfl
  · rw [State.endBeat_eq]; rfl
  · rfl

/-- A video kind leaves the latch. -/
theorem videoBeat_fieldLatch {ok : Bool} {v : Option Sample} {n : Reg} {s t : State}
    (h : videoBeat ok v n s = .next t) : t.fieldLatch = s.fieldLatch := by
  rcases videoBeat_cases h with ⟨-, x, -, rfl⟩ | ⟨-, rfl⟩
  · rw [State.endBeat_fieldLatch]; rfl
  · rfl

/-- A MARK kind leaves the DAC, its pulse and the observations. -/
theorem latchBeat_dac {ok : Bool} {b : Byte} {n : Reg} {s t : State} (h : latchBeat ok b n s = .next t) :
    t.dacOut = s.dacOut ∧ t.dacWr = s.dacWr ∧ t.trace = s.trace := by
  rcases latchBeat_cases h with ⟨-, rfl⟩ | ⟨-, rfl⟩
  · simp
  · exact ⟨rfl, rfl, rfl⟩

/-- Settles O27, the latch and the DAC kind by kind. -/
theorem descriptorFrame : Obligations.DescriptorFrame := by
  intro i s t hi h
  have hframe := exec_descriptor_frame hi h
  refine ⟨hframe, fun a => by rw [hframe], fun a => by rw [hframe], ?_, ?_⟩
  · rintro ⟨c, n, rfl | rfl | ⟨o, rfl⟩⟩
    · exact videoBeat_fieldLatch h
    · exact videoBeat_fieldLatch h
    · exact videoBeat_fieldLatch h
  · rintro ⟨n, rfl | rfl⟩
    · exact latchBeat_dac h
    · exact latchBeat_dac h

/-! ### The advance (R164) -/

/-- Settles O31: an entry outside the chain's 436 or an illegal one faults, a well-formed one has a first beat. -/
theorem advanceLoadsSuccessor : Obligations.AdvanceLoadsSuccessor := by
  intro s t d hread
  have hadv := State.advance_of_read hread
  have hfetch : t.toNat < numDescriptors → fetchDescriptor (s.advance t) = some d := fun ht => by
    rw [hadv, fetchDescriptor, if_pos ht]
    exact hread
  refine ⟨hadv, fun ⟨e, hD⟩ => ?_, fun hc ht ⟨i, hD⟩ => ?_⟩
  · by_cases ht : t.toNat < numDescriptors
    · exact beat_of_illegal (hfetch ht) (by rw [State.advance_cfg, hD])
    · exact beat_of_undef (by rw [fetchDescriptor, State.advance_didx, if_neg ht])
  · obtain ⟨hcount, -, -⟩ := decodeD_extent hc hD
    have hf := hfetch ht
    rw [hadv] at hf ⊢
    exact positionOk_of_counts hc hf hD hcount le_rfl (by simp)

/-! ### Who writes the chain (R166) -/

@[simp] theorem State.withSetting_chain (s : State) (x : Setting) : (s.withSetting x).chain = s.chain := rfl

theorem StepEffect.chain_of_ne {s t : State} {x : Setting} (e : StepEffect s x t) (hne : t.chain ≠ s.chain) :
    (Accepts s .begin true true ∧ s.bound = true ∧ s.begun = false ∧ t.chain = builtChain s.cfg) ∨
    (Resets s ∧ t.chain = []) := by
  cases e with
  | begin hacc hbound hbegun => exact .inl ⟨hacc, hbound, hbegun, rfl⟩
  | reset hreset => exact .inr ⟨hreset, rfl⟩
  | beat | clearStore => exact absurd (by simp) hne
  | _ => exact absurd rfl hne

/-- The first successful BEGIN (R202, R204). -/
theorem exec_begin_of_success {s : State} (hbound : s.bound = true) (hbegun : s.begun = false)
    (hdma : s.dmaAvail = true) (hmem : s.memAvail = true) :
    exec .begin s = .next (s.beginSuccess.respond statusOk 0x01) := by
  simp [exec, execBegin, hbound, hbegun, hdma, hmem]

/-- Settles O57: the chain BEGIN builds, and the effects that change it. -/
theorem chainWrittenOnlyByBegin : Obligations.ChainWrittenOnlyByBegin := by
  refine ⟨fun s hbound hbegun hdma hmem => ?_, fun s t hstep => ?_⟩
  · exact ⟨_, exec_begin_of_success hbound hbegun hdma hmem, rfl,
      fun i hi => (builtChain_read s.cfg i).trans (if_pos hi)⟩
  · obtain ⟨x, -, e⟩ := step_effect hstep
    exact e.chain_of_ne

/-! ### The built chain by index (R161, R162, R167) -/

/-- The indices of the row descriptors (R161). -/
abbrev IsRowIndex (i : Nat) : Prop := i ≠ 0 ∧ i ≠ 217 ∧ i ≠ 218 ∧ i ≠ 435

/-- The row of the odd field's row descriptors and of the even field's (R162). -/
theorem rowOf_odd {i : Nat} (h : i < 217) : rowOf i = (i - 1) / 9 := if_pos h

theorem rowOf_even {i : Nat} (h : 217 ≤ i) : rowOf i = (i - 219) / 9 := if_neg (Nat.not_lt.mpr h)

theorem chainInstr_row (c : Config) {i : Nat} (h : IsRowIndex i) : chainInstr c i =
    .xferRow (BitVec.ofNat 16 c.R) (BitVec.ofNat 16 (rowOf i * c.R)) (BitVec.ofNat 16 ((i + 1) % 436)) := by
  obtain ⟨h0, hodd, htt, heven⟩ := h
  simp [chainInstr, h0, hodd, htt, heven]

/-- The built chain at an index, as its descriptor (R161, R165). -/
theorem read_builtChain {c : Config} (hc : c.WF) {i : Nat} (hi : i < 436) :
    ∃ d, (builtChain c).read i = some d ∧ decodeD c d = .ok (chainInstr c i) :=
  ⟨_, (builtChain_read c i).trans (if_pos hi), decodeD_chainBuild hc hi⟩

/-- Settles O37, range by range. -/
theorem chainLayout : Obligations.ChainLayout := by
  intro c hc
  refine ⟨read_builtChain hc (by decide), fun i h1 h216 => ?_, read_builtChain hc (by decide),
    read_builtChain hc (by decide), fun i h219 h434 => ?_, read_builtChain hc (by decide), fun i hi => ?_⟩
  · have hd := read_builtChain hc (i := i) (by omega)
    rw [chainInstr_row c (by omega), Nat.mod_eq_of_lt (by omega), rowOf_odd (by omega)] at hd
    exact hd
  · have hd := read_builtChain hc (i := i) (by omega)
    rw [chainInstr_row c (by omega), Nat.mod_eq_of_lt (by omega), rowOf_even (by omega)] at hd
    exact hd
  · exact (builtChain_read c i).trans (if_neg (Nat.not_lt.mpr hi))

/-! ### The fields along the built chain (R165, R167) -/

theorem toNat_dNext_chainBuild (c : Config) (i : Nat) : (dNext (chainBuild c i)).toNat = (i + 1) % 436 := by
  have hlt : (i + 1) % numDescriptors < 2 ^ 16 := (Nat.mod_lt _ (by decide)).trans (by decide)
  unfold chainBuild chainInstr
  split_ifs <;> simpa [encode] using hlt

/-- The two MARK descriptors go to the latch, all others to the DAC (R167). -/
theorem dDst_chainBuild_eq_one_iff (c : Config) (i : Nat) : dDst (chainBuild c i) = 1 ↔ i = 217 ∨ i = 435 := by
  unfold chainBuild chainInstr
  split_ifs with h0 hodd htt heven <;> simp_all [encode]

/-- The row descriptors read the buffer, all others do not (R167). -/
theorem dSrc_chainBuild_eq_two_iff (c : Config) (i : Nat) : dSrc (chainBuild c i) = 2 ↔ IsRowIndex i := by
  unfold chainBuild chainInstr
  split_ifs with h0 hodd htt heven <;> simp_all [encode, IsRowIndex]

/-- `COUNT` along the chain (R161, R165). -/
theorem toNat_dCount_chainBuild {c : Config} (hc : c.WF) (i : Nat) : (dCount (chainBuild c i)).toNat =
    if i = 0 then 46 * c.R else if i = 217 then 1 else if i = 218 then 47 * c.R else if i = 435 then 1
    else c.R := by
  obtain ⟨-, ⟨-, -, hR⟩, -⟩ := hc
  unfold chainBuild chainInstr
  split_ifs <;> simp [encode, Config.lenOdd, Config.lenEven] <;> omega

theorem toNat_dCount_ttOdd {c : Config} (hc : c.WF) : (dCount (chainBuild c 0)).toNat = 46 * c.R :=
  toNat_dCount_chainBuild hc 0

theorem toNat_dCount_markOdd {c : Config} (hc : c.WF) : (dCount (chainBuild c 217)).toNat = 1 :=
  toNat_dCount_chainBuild hc 217

theorem toNat_dCount_ttEven {c : Config} (hc : c.WF) : (dCount (chainBuild c 218)).toNat = 47 * c.R :=
  toNat_dCount_chainBuild hc 218

theorem toNat_dCount_markEven {c : Config} (hc : c.WF) : (dCount (chainBuild c 435)).toNat = 1 :=
  toNat_dCount_chainBuild hc 435

theorem toNat_dCount_row {c : Config} (hc : c.WF) {i : Nat} (h : IsRowIndex i) :
    (dCount (chainBuild c i)).toNat = c.R := by
  obtain ⟨h0, hodd, htt, heven⟩ := h
  rw [toNat_dCount_chainBuild hc, if_neg h0, if_neg hodd, if_neg htt, if_neg heven]

/-- `SRCOFF` along the chain (R161, R165). -/
theorem toNat_dSrcoff_chainBuild {c : Config} (hc : c.WF) {i : Nat} (hi : i < 436) :
    (dSrcoff (chainBuild c i)).toNat =
      if i = 0 then 0 else if i = 217 then 1 else if i = 218 then 0 else if i = 435 then 2
      else rowOf i * c.R := by
  have hfit : i ≠ 435 → rowOf i * c.R < 2 ^ 16 := fun h => by
    obtain ⟨-, ⟨-, -, hR⟩, -⟩ := hc
    have hrow : rowOf i < height := rowOf_lt (by simp only [idxMarkEven]; omega)
    have : rowOf i * c.R ≤ 23 * 1394 := Nat.mul_le_mul (Nat.le_of_lt_succ hrow) hR
    omega
  unfold chainBuild chainInstr
  split_ifs with h0 hodd htt heven <;> simp [encode]
  exact hfit heven

theorem toNat_dSrcoff_row {c : Config} (hc : c.WF) {i : Nat} (hi : i < 436) (h : IsRowIndex i) :
    (dSrcoff (chainBuild c i)).toNat = rowOf i * c.R := by
  obtain ⟨h0, hodd, htt, heven⟩ := h
  rw [toNat_dSrcoff_chainBuild hc hi, if_neg h0, if_neg hodd, if_neg htt, if_neg heven]

/-- Only a MARK descriptor does not move its source pointer, and it has one beat (R94). -/
theorem dSrcinc_chainBuild {c : Config} {i : Nat} (h : 1 < (dCount (chainBuild c i)).toNat) :
    dSrcinc (chainBuild c i) = 1 := by
  unfold chainBuild chainInstr at *
  split_ifs at * <;> simp_all [encode]

/-! ### The chain invariants (R167) -/

/-- The beat of a frame at which descriptor `n` becomes current: the counts before it, added up. -/
def firstBeat (c : Config) (n : Nat) : Nat :=
  ((List.range n).map fun i => (dCount (chainBuild c i)).toNat).sum

theorem firstBeat_zero (c : Config) : firstBeat c 0 = 0 := rfl

theorem firstBeat_succ (c : Config) (n : Nat) :
    firstBeat c (n + 1) = firstBeat c n + (dCount (chainBuild c n)).toNat := by
  simp [firstBeat, List.range_succ]

/-- The first beats of the odd field's row descriptors and of MARK_ODD (R168). -/
theorem firstBeat_odd {c : Config} (hc : c.WF) {j : Nat} (hj : j ≤ 216) :
    firstBeat c (j + 1) = 46 * c.R + j * c.R := by
  induction j with
  | zero => rw [firstBeat_succ, toNat_dCount_ttOdd hc, firstBeat_zero]; omega
  | succ j ih =>
    rw [firstBeat_succ, ih (by omega), toNat_dCount_row hc (by omega), Nat.succ_mul j, Nat.add_assoc]

/-- The first beats of the even field's row descriptors and of MARK_EVEN (R168). -/
theorem firstBeat_even {c : Config} (hc : c.WF) {j : Nat} (hj : j ≤ 216) :
    firstBeat c (j + 219) = 309 * c.R + 1 + j * c.R := by
  induction j with
  | zero =>
    rw [firstBeat_succ, firstBeat_succ, firstBeat_odd hc le_rfl, toNat_dCount_markOdd hc, toNat_dCount_ttEven hc]
    omega
  | succ j ih =>
    rw [Nat.succ_add, firstBeat_succ, ih (by omega), toNat_dCount_row hc (by omega), Nat.succ_mul j, Nat.add_assoc]

/-- All counts together are one frame (R167). -/
theorem firstBeat_last {c : Config} (hc : c.WF) : firstBeat c 436 = 525 * c.R + 2 := by
  rw [firstBeat_succ, firstBeat_even hc le_rfl, toNat_dCount_markEven hc]
  omega

/-- Following `NEXT` from descriptor 0 goes round the chain (R160, R167). -/
theorem iterate_dNext_chainBuild (c : Config) (k : Nat) :
    (fun j => (dNext (chainBuild c j)).toNat)^[k] 0 = k % 436 := by
  induction k with
  | zero => rfl
  | succ k ih => rw [Function.iterate_succ_apply', ih, toNat_dNext_chainBuild, Nat.mod_add_mod]

/-- A count of chain indices, by what the property says of each index. -/
theorem countP_range_congr {p q : Nat → Bool} (h : ∀ i, i < 436 → (p i = true ↔ q i = true)) :
    (List.range 436).countP p = (List.range 436).countP q :=
  List.countP_congr fun i hi => h i (List.mem_range.mp hi)

/-- Of the row descriptors each shows one of the 24 rows, and each row is shown 18 times (R162). -/
theorem countP_rowOf : ∀ row, row < 24 →
    (List.range 436).countP (fun i => IsRowIndex i ∧ rowOf i = row) = 18 := by decide +kernel

/-- A row descriptor shows row `row` where its source offset is the row's start (R162). -/
theorem toNat_dSrcoff_eq_mul_iff {c : Config} (hc : c.WF) {i : Nat} (hi : i < 436) (h : IsRowIndex i) (row : Nat) :
    (dSrcoff (chainBuild c i)).toNat = row * c.R ↔ rowOf i = row := by
  obtain ⟨-, ⟨-, hR, -⟩, -⟩ := id hc
  rw [toNat_dSrcoff_row hc hi h]
  exact Nat.mul_left_inj (by omega)

theorem dDst_eq_zero_iff (d : Word) : dDst d = 0 ↔ dDst d ≠ 1 := by
  generalize dDst d = b
  revert b
  decide

/-- A run keeps its configuration (R21). -/
theorem Reachable.cfg_eq {c : Config} {s : State} (h : Reachable c s) : s.cfg = c := by
  induction h with
  | reset dac => rfl
  | outside s moves _ ih => exact ih
  | step s t _ hstep ih => exact (configurationIsFixed.1 s t hstep).trans ih

/-- Settles O38: the invariant of a run gives the chain, and each property of it is one of its indices. -/
theorem chainInvariants : Obligations.ChainInvariants := by
  intro c hc
  refine ⟨by simp [builtChain, Memory.fill], fun s hs hbegun i hi => ?_,
    fun i hi => ⟨decodeD_chainBuild hc hi, toNat_dNext_chainBuild c i⟩, iterate_dNext_chainBuild c,
    fun i _ => dDst_chainBuild_eq_one_iff c i, ?_, ?_, ?_, fun row hrow => ?_, firstBeat_last hc⟩
  · rw [(hs.inv hc).chainBuilt hbegun, hs.cfg_eq, builtChain_read, if_pos hi]
  · rw [countP_range_congr (q := fun i => i = 217 ∨ i = 435)
      fun i _ => by simpa using dDst_chainBuild_eq_one_iff c i]
    decide +kernel
  · rw [countP_range_congr (q := fun i => ¬ (i = 217 ∨ i = 435))
      fun i _ => by simp only [decide_eq_true_eq, dDst_eq_zero_iff, ne_eq, dDst_chainBuild_eq_one_iff]]
    decide +kernel
  · rw [countP_range_congr (q := fun i => IsRowIndex i)
      fun i _ => by simpa using dSrc_chainBuild_eq_two_iff c i]
    decide +kernel
  · rw [countP_range_congr (q := fun i => IsRowIndex i ∧ rowOf i = row) fun i hi => ?_]
    · exact countP_rowOf row hrow
    · simp only [decide_eq_true_eq, dSrc_chainBuild_eq_two_iff]
      exact and_congr_right fun h => toNat_dSrcoff_eq_mul_iff hc hi h row

end Sys2Proof.Machine

/-! The frame schedule (42_descriptor_chain.md R168, 43_pixel_clock.md R180, R183): every beat of a frame is a
beat of one descriptor of the built chain, so a tick at beat `p` performs that descriptor's action and leads to
beat `p + 1`; between two ticks the engine only counts. -/

namespace Sys2Proof.Machine

/-! ### The schedule by descriptor -/

/-- What a beat of the descriptor word `d` does at source pointer `ptr` (R163). -/
def actionOf (d : Word) (ptr : Nat) : BeatAction :=
  if dDst d = 1 then .latch (dImm8 d)
  else if dSrc d = 0 then .table .odd ptr
  else if dSrc d = 1 then .table .even ptr
  else .buffer ptr

@[simp] theorem actionOf_xferTtOdd (count next : Reg) (ptr : Nat) :
    actionOf (encode (.xferTtOdd count next)) ptr = .table .odd ptr := by simp [actionOf, encode]

@[simp] theorem actionOf_xferTtEven (count next : Reg) (ptr : Nat) :
    actionOf (encode (.xferTtEven count next)) ptr = .table .even ptr := by simp [actionOf, encode]

@[simp] theorem actionOf_xferRow (count srcoff next : Reg) (ptr : Nat) :
    actionOf (encode (.xferRow count srcoff next)) ptr = .buffer ptr := by simp [actionOf, encode]

@[simp] theorem actionOf_markOdd (next : Reg) (ptr : Nat) :
    actionOf (encode (.markOdd next)) ptr = .latch oddMarker := by simp [actionOf, encode]

@[simp] theorem actionOf_markEven (next : Reg) (ptr : Nat) :
    actionOf (encode (.markEven next)) ptr = .latch evenMarker := by simp [actionOf, encode]

/-- Beat `k` of descriptor `i` of the built chain (R161, R163). -/
def descriptorPlan (c : Config) (i k : Nat) : BeatPlan :=
  let d := chainBuild c i
  ⟨i, (dCount d).toNat - k, (dSrcoff d).toNat + k, actionOf d ((dSrcoff d).toNat + k)⟩

theorem descriptorPlan_row {c : Config} (hc : c.WF) {i : Nat} (hi : i < 436) (h : IsRowIndex i) (k : Nat) :
    descriptorPlan c i k = ⟨i, c.R - k, rowOf i * c.R + k, .buffer (rowOf i * c.R + k)⟩ := by
  have haction (ptr : Nat) : actionOf (chainBuild c i) ptr = .buffer ptr := by
    rw [chainBuild, chainInstr_row c h, actionOf_xferRow]
  rw [descriptorPlan, haction, toNat_dCount_row hc h, toNat_dSrcoff_row hc hi h]

theorem descriptorPlan_ttOdd {c : Config} (hc : c.WF) (k : Nat) :
    descriptorPlan c 0 k = ⟨0, 46 * c.R - k, k, .table .odd k⟩ := by
  rw [descriptorPlan, toNat_dCount_ttOdd hc, toNat_dSrcoff_chainBuild hc (by decide), if_pos rfl, Nat.zero_add]
  exact congrArg _ (actionOf_xferTtOdd _ _ k)

theorem descriptorPlan_ttEven {c : Config} (hc : c.WF) (k : Nat) :
    descriptorPlan c 218 k = ⟨218, 47 * c.R - k, k, .table .even k⟩ := by
  rw [descriptorPlan, toNat_dCount_ttEven hc, toNat_dSrcoff_chainBuild hc (by decide), if_neg (by decide),
    if_neg (by decide), if_pos rfl, Nat.zero_add]
  exact congrArg _ (actionOf_xferTtEven _ _ k)

theorem descriptorPlan_markOdd (c : Config) : descriptorPlan c 217 0 = ⟨217, 1, 1, .latch oddMarker⟩ := by
  simp [descriptorPlan, actionOf, chainBuild, chainInstr, encode]

theorem descriptorPlan_markEven (c : Config) : descriptorPlan c 435 0 = ⟨435, 1, 2, .latch evenMarker⟩ := by
  simp [descriptorPlan, actionOf, chainBuild, chainInstr, encode]

/-- Sample `k` of scan line `j` of a field (R168). -/
theorem rowPlan_line {c : Config} {j k : Nat} (first : Nat) (hk : k < c.R) :
    rowPlan c first (j * c.R + k) = ⟨first + j, c.R - k, j / 9 * c.R + k, .buffer (j / 9 * c.R + k)⟩ := by
  have hdiv : (j * c.R + k) / c.R = j := by
    rw [Nat.add_comm, Nat.add_mul_div_right _ _ (by omega), Nat.div_eq_of_lt hk, Nat.zero_add]
  have hmod : (j * c.R + k) % c.R = k := by rw [Nat.mul_add_mod_self_right, Nat.mod_eq_of_lt hk]
  rw [rowPlan, hdiv, hmod]

/-- A field has 216 scan lines (R168). -/
theorem line_lt {r j k : Nat} (hj : j < 216) (hk : k < r) : j * r + k < 216 * r :=
  calc j * r + k < (j + 1) * r := by rw [Nat.succ_mul]; omega
    _ ≤ 216 * r := Nat.mul_le_mul_right _ hj

/-- The closed form of R168 is the chain's descriptors one after the other, each with its beats. -/
theorem beatPlan_firstBeat_add {c : Config} (hc : c.WF) {i k : Nat} (hi : i < 436)
    (hk : k < (dCount (chainBuild c i)).toNat) : beatPlan c (firstBeat c i + k) = descriptorPlan c i k := by
  obtain rfl | rfl | rfl | rfl | hrow :
    i = 0 ∨ i = 217 ∨ i = 218 ∨ i = 435 ∨ IsRowIndex i := by omega
  · rw [toNat_dCount_ttOdd hc] at hk
    rw [descriptorPlan_ttOdd hc, firstBeat_zero, Nat.zero_add, beatPlan, if_pos hk]
  · obtain rfl : k = 0 := Nat.lt_one_iff.mp (hk.trans_eq (toNat_dCount_markOdd hc))
    rw [descriptorPlan_markOdd, firstBeat_odd hc le_rfl, beatPlan, if_neg (by omega), if_neg (by omega),
      if_pos (by omega)]
  · rw [toNat_dCount_ttEven hc] at hk
    have hfirst : firstBeat c 218 = 262 * c.R + 1 := by
      rw [firstBeat_succ, firstBeat_odd hc le_rfl, toNat_dCount_markOdd hc]
      omega
    have hleft : 309 * c.R + 1 - (262 * c.R + 1 + k) = 47 * c.R - k := by omega
    rw [descriptorPlan_ttEven hc, hfirst, beatPlan, if_neg (by omega), if_neg (by omega), if_neg (by omega),
      if_pos (by omega), hleft, Nat.sub_sub, Nat.add_sub_cancel_left]
  · obtain rfl : k = 0 := Nat.lt_one_iff.mp (hk.trans_eq (toNat_dCount_markEven hc))
    rw [descriptorPlan_markEven, firstBeat_even hc le_rfl, beatPlan, if_neg (by omega), if_neg (by omega),
      if_neg (by omega), if_neg (by omega), if_neg (by omega)]
  · rw [toNat_dCount_row hc hrow] at hk
    rw [descriptorPlan_row hc hi hrow]
    by_cases hodd : i < 217
    · obtain ⟨j, rfl⟩ : ∃ j, i = j + 1 := ⟨i - 1, by omega⟩
      have hline := line_lt (j := j) (by omega) hk
      rw [firstBeat_odd hc (by omega), rowOf_odd hodd, Nat.add_assoc, beatPlan, if_neg (by omega),
        if_pos (by omega), Nat.add_sub_cancel_left, rowPlan_line 1 hk, Nat.add_comm 1, Nat.add_sub_cancel]
    · obtain ⟨j, rfl⟩ : ∃ j, i = j + 219 := ⟨i - 219, by omega⟩
      have hline := line_lt (j := j) (by omega) hk
      rw [firstBeat_even hc (by omega), rowOf_even (by omega), Nat.add_assoc, beatPlan, if_neg (by omega),
        if_neg (by omega), if_neg (by omega), if_neg (by omega), if_pos (by omega), Nat.sub_sub,
        Nat.add_sub_cancel_left, rowPlan_line 219 hk, Nat.add_comm 219, Nat.add_sub_cancel]

/-- Every beat before descriptor `n` is a beat of a descriptor before it. -/
theorem exists_firstBeat_add {c : Config} {n p : Nat} (hp : p < firstBeat c n) :
    ∃ i k, i < n ∧ k < (dCount (chainBuild c i)).toNat ∧ p = firstBeat c i + k := by
  induction n with
  | zero => exact absurd hp (Nat.not_lt_zero p)
  | succ n ih =>
    by_cases hlt : p < firstBeat c n
    · obtain ⟨i, k, hi, hk, hik⟩ := ih hlt
      exact ⟨i, k, by omega, hk, hik⟩
    · rw [firstBeat_succ] at hp
      exact ⟨n, p - firstBeat c n, by omega, by omega, by omega⟩

theorem firstBeat_mono (c : Config) {m n : Nat} (h : m ≤ n) : firstBeat c m ≤ firstBeat c n :=
  monotone_nat_of_le_succ (fun k => by rw [firstBeat_succ]; exact Nat.le_add_right _ _) h

/-- No descriptor's beats go past the end of the frame. -/
theorem firstBeat_add_lt {c : Config} (hc : c.WF) {i k : Nat} (hi : i < 436)
    (hk : k < (dCount (chainBuild c i)).toNat) : firstBeat c i + k < 525 * c.R + 2 := by
  have hnext := firstBeat_mono c (show i + 1 ≤ 436 from hi)
  rw [firstBeat_succ, firstBeat_last hc] at hnext
  omega

/-- Every descriptor of the chain has a beat (R95). -/
theorem one_le_dCount_chainBuild {c : Config} (hc : c.WF) {i : Nat} (hi : i < 436) :
    1 ≤ (dCount (chainBuild c i)).toNat := (decodeD_extent hc (decodeD_chainBuild hc hi)).1

/-- The beat after the last of a descriptor is the first of its successor, beat 0 after the last of all. -/
theorem firstBeat_succ_mod {c : Config} (hc : c.WF) {i : Nat} (hi : i < 436) :
    firstBeat c (i + 1) % (525 * c.R + 2) = firstBeat c ((i + 1) % 436) := by
  by_cases hlast : i = 435
  · subst hlast
    rw [firstBeat_last hc, Nat.mod_self]
    rfl
  · have hnext : i + 1 < 436 := by omega
    rw [Nat.mod_eq_of_lt hnext, Nat.mod_eq_of_lt]
    exact firstBeat_add_lt hc hnext (one_le_dCount_chainBuild hc hnext)

/-! ### One tick -/

/-- To stand at a beat of the frame is to stand at a beat of a descriptor. -/
theorem atBeat_firstBeat_add_iff {s : State} {c : Config} (hs : s.cfg = c) (hc : c.WF) {i k : Nat}
    (hi : i < 436) (hk : k < (dCount (chainBuild c i)).toNat) : AtBeat s (firstBeat c i + k) ↔
      s.didx.toNat = i ∧ s.bcnt.toNat = (dCount (chainBuild c i)).toNat - k ∧
        s.sptr.toNat = (dSrcoff (chainBuild c i)).toNat + k := by
  rw [AtBeat, hs, beatPlan_firstBeat_add hc hi hk]
  rfl

/-- The end of a beat leads to the next beat of the frame, inside the descriptor or to its successor (R163). -/
theorem endBeat_atBeat {s : State} {i k : Nat} (hc : s.cfg.WF) (hchain : s.chain = builtChain s.cfg)
    (hi : i < 436) (hk : k < (dCount (chainBuild s.cfg i)).toNat) (h : AtBeat s (firstBeat s.cfg i + k)) :
    AtBeat (s.endBeat (dSrcinc (chainBuild s.cfg i) = 1) (dNext (chainBuild s.cfg i)))
      ((firstBeat s.cfg i + k + 1) % (525 * s.cfg.R + 2)) := by
  obtain ⟨hidx, hcount, hptr⟩ := (atBeat_firstBeat_add_iff rfl hc hi hk).mp h
  by_cases hmore : k + 1 < (dCount (chainBuild s.cfg i)).toNat
  · obtain ⟨-, hfit, -⟩ := decodeD_extent hc (decodeD_chainBuild hc hi)
    rw [Nat.add_assoc, Nat.mod_eq_of_lt (firstBeat_add_lt hc hi hmore)]
    refine (atBeat_firstBeat_add_iff (State.endBeat_cfg _ _ s) hc hi hmore).mpr ?_
    rw [State.endBeat_of_more (by omega), dSrcinc_chainBuild (by omega)]
    refine ⟨hidx, ?_, ?_⟩
    · change (s.bcnt - 1).toNat = _
      bv_omega
    · change (s.sptr + 1).toNat = _
      bv_omega
  · have hnext := toNat_dNext_chainBuild s.cfg i
    have hlt : (i + 1) % 436 < 436 := Nat.mod_lt _ (by decide)
    have hread : s.chain.read (dNext (chainBuild s.cfg i)).toNat = some (chainBuild s.cfg ((i + 1) % 436)) := by
      rw [hnext, hchain, builtChain_read, if_pos hlt]
    have hlast : firstBeat s.cfg i + k + 1 = firstBeat s.cfg (i + 1) := by
      rw [firstBeat_succ]
      omega
    rw [hlast, firstBeat_succ_mod hc hi]
    refine (atBeat_firstBeat_add_iff (State.endBeat_cfg _ _ s) hc hlt (one_le_dCount_chainBuild hc hlt)).mpr ?_
    rw [State.endBeat_of_last (by omega), State.advance_of_read hread]
    exact ⟨hnext, rfl, rfl⟩

/-- A source element inside its space has a value where the buffer is full, whatever the levels in it (R61, R129). -/
theorem sourceElement_of_full {s : State} {d : Word} (hc : s.cfg.WF)
    (hfb : ∀ o, o < 24 * s.cfg.R → ∃ v, s.fb.read o = some v) (h : InSource s.cfg d s.sptr.toNat) :
    ∃ v, sourceElement s d = some v := by
  obtain ⟨hodd, heven, hbuf⟩ := h
  unfold sourceElement
  split_ifs with h0 h1 h2
  · exact ⟨_, List.getElem?_eq_getElem (by rw [length_ttOdd hc]; exact hodd h0)⟩
  · exact ⟨_, List.getElem?_eq_getElem (by rw [length_ttEven hc]; exact heven h1)⟩
  · obtain ⟨v, hv⟩ := hfb _ (hbuf h2)
    exact ⟨v, (if_pos (hbuf h2)).trans hv⟩
  · exact ⟨_, rfl⟩

theorem read_of_fbRead {s : State} {o : Nat} {v : Sample} (h : fbRead s o = some v) : s.fb.read o = some v := by
  unfold fbRead at h
  split_ifs at h
  exact h

/-- A tick whose beat finds the source element `v` performs what the descriptor's word says (R163). -/
theorem performed_of_source {s : State} {d : Word} {i : Instr} {v : Sample} (hD : decodeD s.cfg d = .ok i)
    (hv : sourceElement s d = some v) (b : Bool) (n : Reg) :
    Performed s ((writeDestination d v s.tickStart).endBeat b n) (actionOf d s.sptr.toNat) := by
  have hsent : Sent s ((s.tickStart.dacWrite v).endBeat b n) v := by simp [Sent]
  obtain ⟨hi, -, rfl⟩ := decodeD_ok hD
  cases i with
  | xferTtOdd =>
    rw [sourceElement_xferTtOdd] at hv
    rw [writeDestination_xferTtOdd, actionOf_xferTtOdd]
    exact ⟨v, hv, hsent⟩
  | xferTtEven =>
    rw [sourceElement_xferTtEven] at hv
    rw [writeDestination_xferTtEven, actionOf_xferTtEven]
    exact ⟨v, hv, hsent⟩
  | xferRow =>
    rw [sourceElement_xferRow] at hv
    rw [writeDestination_xferRow, actionOf_xferRow]
    exact ⟨v, read_of_fbRead hv, hsent⟩
  | markOdd =>
    rw [sourceElement_markOdd] at hv
    cases hv
    rw [writeDestination_markOdd, actionOf_markOdd]
    simp [Performed]
  | markEven =>
    rw [sourceElement_markEven] at hv
    cases hv
    rw [writeDestination_markEven, actionOf_markEven]
    simp [Performed]
  | _ => cases hi

/-- A tick whose beat completes changes the position, the destination, the divider and the tick's pulses and
observations, and nothing else (R163, R181). -/
theorem tick_frame {s t : State} {d : Word} {v : Sample} {b : Bool} {n : Reg}
    (ht : t = (writeDestination d v s.tickStart).endBeat b n) :
    t = { s with div := 0, pixTick := true, dacOut := t.dacOut, dacWr := t.dacWr, trace := t.trace,
                 fieldLatch := t.fieldLatch, didx := t.didx, bcnt := t.bcnt, sptr := t.sptr,
                 draws := t.draws } := by
  subst ht
  unfold writeDestination
  split
  · rw [State.endBeat_eq]; rfl
  · rw [State.endBeat_eq]; rfl

/-- A tick at beat `p` of the frame (R168). -/
theorem AtBeat.tick {s : State} {p : Nat} (hc : s.cfg.WF) (hrun : s.run = true)
    (hchain : s.chain = builtChain s.cfg) (hfb : ∀ o, o < 24 * s.cfg.R → ∃ v, s.fb.read o = some v)
    (hp : p < 525 * s.cfg.R + 2) (h : AtBeat s p) (hdiv : s.div.toNat + 1 = s.cfg.P) :
    ∃ t, clockEdge s = .next t ∧ AtBeat t ((p + 1) % (525 * s.cfg.R + 2)) ∧
      Performed s t (beatPlan s.cfg p).action ∧
      t = { s with div := 0, pixTick := true, dacOut := t.dacOut, dacWr := t.dacWr, trace := t.trace,
                   fieldLatch := t.fieldLatch, didx := t.didx, bcnt := t.bcnt, sptr := t.sptr,
                   draws := t.draws } := by
  obtain ⟨i, k, hi, hk, rfl⟩ := exists_firstBeat_add (hp.trans_eq (firstBeat_last hc).symm)
  obtain ⟨hidx, -, hptr⟩ := (atBeat_firstBeat_add_iff rfl hc hi hk).mp h
  have hD := decodeD_chainBuild hc hi
  obtain ⟨-, -, hinside⟩ := decodeD_extent hc hD
  obtain ⟨v, hv⟩ := sourceElement_of_full hc hfb (hptr ▸ hinside k hk)
  have hf : fetchDescriptor s.tickStart = some (chainBuild s.cfg i) :=
    hidx ▸ fetchDescriptor_of_builtChain (s := s.tickStart) hchain (hidx.trans_lt hi)
  have hat : AtBeat (writeDestination (chainBuild s.cfg i) v s.tickStart) (firstBeat s.cfg i + k) := by
    simpa [AtBeat] using h
  have hnext := endBeat_atBeat (s := writeDestination (chainBuild s.cfg i) v s.tickStart) (i := i) (k := k)
    (by simpa using hc) (by simpa using hchain) hi (by simpa using hk) (by simpa using hat)
  refine ⟨_, (clockEdge_of_tick hrun hdiv).trans (beat_of_source_some hf hD hv), by simpa using hnext, ?_,
    tick_frame rfl⟩
  rw [beatPlan_firstBeat_add hc hi hk, descriptorPlan, ← hptr]
  exact performed_of_source hD hv _ _

/-- Settles O35: a tick of the engine at a beat of the frame, without the elements it leaves alone. -/
theorem frameScheduleStep : Obligations.FrameScheduleStep := by
  intro s p hc hrun hchain hfb hp hat hdiv
  obtain ⟨t, ht, hnext, hperformed, hframe⟩ := hat.tick hc hrun hchain hfb hp hdiv
  refine ⟨t, ht, hnext, hperformed, ?_⟩
  rw [hframe]
  exact ⟨hrun, rfl, rfl, rfl⟩

/-! ### From one tick to the next -/

theorem run_succ_of_step {M : Host.Core} {s u : M.State} (n : Nat) (h : M.step s = .next u) :
    M.run (n + 1) s = M.run n u := by
  rw [Host.Core.run, h]

theorem run_add_of_run {M : Host.Core} {s t : M.State} {m : Nat} (n : Nat) (h : M.run m s = .next t) :
    M.run (m + n) s = M.run n t := by
  induction m generalizing s with
  | zero => cases h; rw [Nat.zero_add]
  | succ m ih =>
    rw [Host.Core.run] at h
    split at h
    · next u hstep => rw [Nat.succ_add, run_succ_of_step _ hstep, ih h]
    · cases h
    · cases h

/-- With nothing from outside and no CLEAR in progress the next step is the engine's (R71). -/
theorem step_of_silent {s : State} (hc : s.cfg.WF) (hin : s.inputs = []) (hready : s.clrBusy = false) :
    step s = clockEdge s.engineTurn := by
  simp only [step, nextMove, if_pos hc, hin, idleMove, hready, Bool.false_eq_true, if_false]

/-- While `DIV` stays below `P` the edges only count (R180, R181). -/
theorem run_count {s : State} {n : Nat} (hc : s.cfg.WF) (hrun : s.run = true) (hin : s.inputs = [])
    (hready : s.clrBusy = false) (hn : s.div.toNat + n < s.cfg.P) :
    ∃ t, Sys2Proof.core.run n s = .next t ∧ t.div.toNat = s.div.toNat + n ∧
      t = { s with div := t.div, slot := t.slot, rspValid := t.rspValid, dacWr := t.dacWr,
                   pixTick := t.pixTick } := by
  induction n generalizing s with
  | zero => exact ⟨s, rfl, rfl, rfl⟩
  | succ n ih =>
    have hstep : step s = .next s.engineTurn.countEdge :=
      (step_of_silent hc hin hready).trans (clockEdge_of_count hrun (by simp; omega))
    have hdiv : (s.div + 1).toNat = s.div.toNat + 1 := by
      obtain ⟨-, -, ⟨-, hP⟩, -⟩ := hc
      bv_omega
    obtain ⟨t, ht, htdiv, hframe⟩ := ih (s := s.engineTurn.countEdge) hc hrun hin hready
      (by simp; omega)
    refine ⟨t, (run_succ_of_step (M := Sys2Proof.core) n hstep).trans ht, ?_, hframe⟩
    rw [htdiv, State.countEdge_div, State.engineTurn_div, hdiv]
    omega

/-! ### The whole frame, over and over -/

/-- The engine runs with nothing from outside and stands at beat `p` of the frame. -/
structure Scheduled (s : State) (p : Nat) : Prop where
  config : s.cfg.WF
  running : s.run = true
  silent : s.inputs = []
  ready : s.clrBusy = false
  chain : s.chain = builtChain s.cfg
  buffer : ∀ o, o < 24 * s.cfg.R → ∃ v, s.fb.read o = some v
  inFrame : p < 525 * s.cfg.R + 2
  position : AtBeat s p

/-- The invariant of a run gives what the schedule needs. -/
theorem State.Inv.scheduled {s : State} (h : s.Inv) (hrun : s.run = true) (hin : s.inputs = [])
    (hready : s.clrBusy = false) (hat : AtBeat s 0) : Scheduled s 0 where
  config := h.config
  running := hrun
  silent := hin
  ready := hready
  chain := h.chainBuilt (h.begunFirst hrun)
  buffer o ho := (h.buffer (h.begunFirst hrun) o ho).imp fun _ hv => hv.1
  inFrame := Nat.succ_pos _
  position := hat

/-- An action performed is what the schedule shows of the beat (R168). -/
theorem Performed.trace {s t : State} {p : Nat} (h : Performed s t (beatPlan s.cfg p).action) :
    t.trace = beatObs s p ++ s.trace := by
  unfold beatObs
  cases ha : (beatPlan s.cfg p).action with
  | table sel i =>
    rw [ha] at h
    obtain ⟨v, hv, -, -, htrace⟩ := h
    simp only [hv, htrace, List.cons_append, List.nil_append]
  | buffer o =>
    rw [ha] at h
    obtain ⟨v, hv, -, -, htrace⟩ := h
    simp only [hv, htrace, List.cons_append, List.nil_append]
  | latch v =>
    rw [ha] at h
    obtain ⟨-, -, htrace⟩ := h
    exact htrace

/-- What a beat shows depends on the configuration and the buffer alone. -/
theorem beatObs_congr {s t : State} (hcfg : t.cfg = s.cfg) (hfb : t.fb = s.fb) (p : Nat) :
    beatObs t p = beatObs s p := by
  rw [beatObs, beatObs, hcfg, hfb]

/-- Edges that only count do not leave the beat. -/
theorem Scheduled.run_count {s : State} {p n : Nat} (h : Scheduled s p) (hn : s.div.toNat + n < s.cfg.P) :
    ∃ t, Sys2Proof.core.run n s = .next t ∧ Scheduled t p ∧ t.div.toNat = s.div.toNat + n ∧
      t.trace = s.trace ∧ t.cfg = s.cfg ∧ t.fb = s.fb ∧ t.fault = s.fault := by
  obtain ⟨t, ht, hdiv, hframe⟩ := Machine.run_count h.config h.running h.silent h.ready hn
  refine ⟨t, ht, ?_, hdiv, by rw [hframe], by rw [hframe], by rw [hframe], by rw [hframe]⟩
  rw [hframe]
  exact { h with }

/-- The tick of a beat leads to the next beat. -/
theorem Scheduled.step_tick {s : State} {p : Nat} (h : Scheduled s p) (hdiv : s.div.toNat + 1 = s.cfg.P) :
    ∃ t, step s = .next t ∧ Scheduled t ((p + 1) % (525 * s.cfg.R + 2)) ∧ t.div = 0 ∧
      t.trace = beatObs s p ++ s.trace ∧ t.cfg = s.cfg ∧ t.fb = s.fb ∧ t.fault = s.fault := by
  obtain ⟨t, ht, hat, hperformed, hframe⟩ := AtBeat.tick (s := s.engineTurn) h.config h.running h.chain
    h.buffer h.inFrame h.position hdiv
  refine ⟨t, (step_of_silent h.config h.silent h.ready).trans ht, ?_, by rw [hframe], ?_,
    by rw [hframe]; rfl, by rw [hframe]; rfl, by rw [hframe]; rfl⟩
  · have hp : (p + 1) % (525 * s.cfg.R + 2) < 525 * s.cfg.R + 2 := Nat.mod_lt _ (Nat.succ_pos _)
    rw [hframe] at hat ⊢
    exact { h with inFrame := hp, position := hat }
  · exact hperformed.trace

/-- The `P` edges of one beat (R180, R183). -/
theorem Scheduled.run_beat {s : State} {p : Nat} (h : Scheduled s p) (hdiv : s.div = 0) :
    ∃ t, Sys2Proof.core.run s.cfg.P s = .next t ∧ Scheduled t ((p + 1) % (525 * s.cfg.R + 2)) ∧ t.div = 0 ∧
      t.trace = beatObs s p ++ s.trace ∧ t.cfg = s.cfg ∧ t.fb = s.fb ∧ t.fault = s.fault := by
  obtain ⟨-, -, ⟨hP, -⟩, -⟩ := id h.config
  have hdiv0 : s.div.toNat = 0 := by rw [hdiv]; rfl
  obtain ⟨u, hu, hsched, hudiv, hutrace, hucfg, hufb, hufault⟩ := h.run_count (n := s.cfg.P - 1) (by omega)
  obtain ⟨t, ht, hnext, htdiv, htrace, htcfg, htfb, htfault⟩ := hsched.step_tick (by rw [hucfg]; omega)
  rw [hucfg] at hnext
  refine ⟨t, ?_, hnext, htdiv, ?_, htcfg.trans hucfg, htfb.trans hufb, htfault.trans hufault⟩
  · rw [show s.cfg.P = s.cfg.P - 1 + 1 by omega, run_add_of_run (M := Sys2Proof.core) 1 hu,
      run_succ_of_step (M := Sys2Proof.core) 0 ht]
    rfl
  · rw [htrace, beatObs_congr hucfg hufb, hutrace]

/-- Any number of beats from the start of a frame. -/
theorem Scheduled.run_beats {s : State} (h : Scheduled s 0) (hdiv : s.div = 0) (k : Nat) :
    ∃ t, Sys2Proof.core.run (k * s.cfg.P) s = .next t ∧ Scheduled t (k % (525 * s.cfg.R + 2)) ∧ t.div = 0 ∧
      t.trace = frameTrace s k ++ s.trace ∧ t.cfg = s.cfg ∧ t.fb = s.fb ∧ t.fault = s.fault := by
  induction k with
  | zero => exact ⟨s, by rw [Nat.zero_mul]; rfl, by rwa [Nat.zero_mod], hdiv, rfl, rfl, rfl, rfl⟩
  | succ k ih =>
    obtain ⟨u, hu, hsched, hudiv, hutrace, hucfg, hufb, hufault⟩ := ih
    obtain ⟨t, ht, hnext, htdiv, htrace, htcfg, htfb, htfault⟩ := hsched.run_beat hudiv
    rw [hucfg] at ht hnext
    rw [Nat.mod_add_mod] at hnext
    refine ⟨t, ?_, hnext, htdiv, ?_, htcfg.trans hucfg, htfb.trans hufb, htfault.trans hufault⟩
    · rw [Nat.succ_mul, run_add_of_run (M := Sys2Proof.core) _ hu, ht]
    · rw [htrace, beatObs_congr hucfg hufb, hutrace, ← List.append_assoc]
      rfl

/-- Settles O36, by induction on the number of beats. -/
theorem frameScheduleRun : Obligations.FrameScheduleRun := by
  intro s hinv hrun hin hready hdiv hat k
  obtain ⟨t, ht, hsched, -, htrace, -, hfb, hfault⟩ :=
    (hinv.scheduled hrun hin hready hat).run_beats hdiv k
  exact ⟨t, ht, hsched.position, htrace, hsched.running, hfault.trans hinv.noFault, hfb⟩

end Sys2Proof.Machine

/-! The pixel clock (43_pixel_clock.md R180, R181, R183) and what a step runs: the clock step, the two agents'
turns of an edge, the step of a listed move, the edges between two ticks counted exactly, and the first tick
after BEGIN. -/

namespace Sys2Proof.Machine

/-! ### The clock step (R181) -/

theorem clockEdge_of_stopped {s : State} (hrun : s.run = false) : clockEdge s = .next s := by
  rw [clockEdge, hrun, if_neg Bool.false_ne_true]

/-- Settles O33, the three branches of the clock step. -/
theorem clockStep : Obligations.ClockStep := fun _ =>
  ⟨fun hrun hdiv hP => clockEdge_of_tick hrun (by omega),
    fun hrun hdiv hP => clockEdge_of_count hrun (by omega), clockEdge_of_stopped⟩

/-! ### The turns of an edge (R12, log entry 24) -/

/-- The engine's turn of the edge the host has opened closes it and keeps the pulses. -/
theorem State.engineTurn_of_hostDone {s : State} (h : s.slot = .hostDone) :
    s.engineTurn = { s with slot := .fresh } := by
  simp [engineTurn, quietIf, h]

/-- Every other turn of the engine opens an edge, on which the pulses are low. -/
theorem State.engineTurn_of_ne_hostDone {s : State} (h : s.slot ≠ .hostDone) :
    s.engineTurn = { s.quiet with slot := .engineDone } := by
  cases hslot : s.slot with
  | hostDone => exact absurd hslot h
  | _ => simp [engineTurn, quietIf, quiet, hslot]

/-- The host's turn of the edge the engine has opened closes it and keeps the pulses. -/
theorem State.hostTurn_of_engineDone {s : State} (hready : s.clrBusy = false) (h : s.slot = .engineDone) :
    s.hostTurn = { s with slot := .fresh } := by
  simp [hostTurn, quietIf, hready, h]

/-- The host's turn where no edge is open opens one, on which the pulses are low. -/
theorem State.hostTurn_of_fresh {s : State} (hready : s.clrBusy = false) (h : s.slot = .fresh) :
    s.hostTurn = { s.quiet with slot := .hostDone } := by
  simp [hostTurn, quietIf, quiet, hready, h]

/-! ### The step of a listed move (R71) -/

theorem step_of_listed {s : State} {m : Input} {rest : List Input} (hc : s.cfg.WF)
    (hin : s.inputs = m :: rest) (hw : s.waits m = false) : step s = move m { s with inputs := rest } := by
  simp only [step, nextMove, if_pos hc, hin, hw, Bool.false_eq_true, if_false]

/-- While the listed move waits for the next edge the step is the engine's of this one. -/
theorem step_of_waiting {s : State} {m : Input} {rest : List Input} (hc : s.cfg.WF)
    (hin : s.inputs = m :: rest) (hw : s.waits m = true) : step s = clockEdge s.engineTurn := by
  simp only [step, nextMove, if_pos hc, hin, hw, if_true]

/-- The edge of a pixel tick executes the descriptor `CHAIN[DIDX]` decodes to (R163, R181). -/
theorem step_of_tick {s : State} {rest : List Input} {d : Word} {i : Instr} (hc : s.cfg.WF)
    (hin : s.inputs = .edge :: rest) (hrun : s.run = true) (hdiv : s.div.toNat + 1 = s.cfg.P)
    (hf : fetchDescriptor s = some d) (hd : decodeDescriptor d = .ok i) :
    step s = exec i (State.tickStart (State.engineTurn { s with inputs := rest })) := by
  have htick : step s = beat (State.tickStart (State.engineTurn { s with inputs := rest })) :=
    (step_of_listed hc hin rfl).trans (clockEdge_of_tick hrun hdiv)
  have hfetch : fetchDescriptor (State.tickStart (State.engineTurn { s with inputs := rest })) = some d := hf
  rw [htick]
  simp only [beat, hfetch, hd]

/-- A command the ready port accepts is executed, after the sampling it does (R12, R203). -/
theorem step_of_command {s : State} {rest : List Input} {w : Word} {dma mem : Bool} {i : Instr}
    (hc : s.cfg.WF) (hin : s.inputs = .command w dma mem :: rest) (hready : s.clrBusy = false)
    (hslot : s.slot ≠ .hostDone) (hd : decodeCommand w = .ok i) :
    step s = exec i (State.sampleFor i dma mem (State.hostTurn { s with inputs := rest })) := by
  have hpresent : step s = presentCommand w dma mem (State.hostTurn { s with inputs := rest }) :=
    step_of_listed hc hin (decide_eq_false hslot)
  rw [hpresent, presentCommand, State.hostTurn_clrBusy, if_neg (by simp [hready])]
  simp only [hd]

/-- Settles O49: the step of each listed move, and each agent's turn of an edge. -/
theorem stepRunsDecodedInstruction : Obligations.StepRunsDecodedInstruction := by
  intro s rest i hc
  refine ⟨fun d hin hrun hdiv hidx hread hd => ?_, fun w dma mem hin hready hslot hd => ?_,
    fun m hin hm hslot => ?_, State.engineTurn_of_hostDone, State.engineTurn_of_ne_hostDone,
    State.hostTurn_of_engineDone, State.hostTurn_of_fresh⟩
  · exact step_of_tick hc hin hrun hdiv ((if_pos hidx).trans hread) hd
  · exact step_of_command hc hin hready hslot hd
  · have hw : s.waits m = true := by
      rcases hm with ⟨w, dma, mem, rfl⟩ | ⟨dac, rfl⟩
      · exact decide_eq_true hslot
      · exact decide_eq_true hslot
    rw [step_of_waiting hc hin hw, State.engineTurn_of_hostDone hslot]

/-! ### The edges between two ticks (R180) -/

/-- The state `n` counting edges after `s`, where `DIV` was 0 and `n` is not: the first of them may end an edge
the host has opened, every other opens one of its own (log entry 24). -/
def State.afterCounting (s : State) (n : Nat) : State :=
  if n = 1 ∧ s.slot = .hostDone then { s with div := BitVec.ofNat 16 n, slot := .fresh }
  else { s.quiet with div := BitVec.ofNat 16 n, slot := .engineDone }

/-- Counting edges change the divider, the sharing of the edge and the pulses alone. -/
theorem State.afterCounting_frame (s : State) (n : Nat) : s.afterCounting n =
    { s with
      div := BitVec.ofNat 16 n, slot := (s.afterCounting n).slot, rspValid := (s.afterCounting n).rspValid,
      dacWr := (s.afterCounting n).dacWr, pixTick := (s.afterCounting n).pixTick } := by
  unfold afterCounting
  split <;> rfl

/-- The first counting edge. -/
theorem State.countEdge_engineTurn_of_start {s : State} (hdiv : s.div = 0) :
    s.engineTurn.countEdge = s.afterCounting 1 := by
  by_cases hslot : s.slot = .hostDone
  · rw [engineTurn_of_hostDone hslot, afterCounting, if_pos ⟨rfl, hslot⟩]
    simp [countEdge, hdiv]
  · rw [engineTurn_of_ne_hostDone hslot, afterCounting, if_neg (hslot ·.2)]
    simp [countEdge, hdiv]

/-- One counting edge more. -/
theorem State.countEdge_engineTurn_afterCounting (s : State) {n : Nat} (hn : 1 ≤ n) :
    (s.afterCounting n).engineTurn.countEdge = s.afterCounting (n + 1) := by
  rw [afterCounting, afterCounting, if_neg (show ¬(n + 1 = 1 ∧ s.slot = .hostDone) by omega)]
  split_ifs <;> rw [engineTurn_of_ne_hostDone (by simp), BitVec.ofNat_add] <;> rfl

/-- With the engine running and nothing from outside an edge before the tick counts (R181, R71). -/
theorem step_of_count {s : State} (hc : s.cfg.WF) (hrun : s.run = true) (hin : s.inputs = [])
    (hready : s.clrBusy = false) (hdiv : s.div.toNat + 1 ≠ s.cfg.P) : step s = .next s.engineTurn.countEdge :=
  (step_of_silent hc hin hready).trans (clockEdge_of_count hrun hdiv)

/-- The edges before the tick, counted from `DIV = 0` (R180). -/
theorem run_afterCounting {s : State} {n : Nat} (hc : s.cfg.WF) (hrun : s.run = true) (hin : s.inputs = [])
    (hready : s.clrBusy = false) (hdiv : s.div = 0) (hpos : 1 ≤ n) (hn : n < s.cfg.P) :
    Sys2Proof.core.run n s = .next (s.afterCounting n) := by
  induction n, hpos using Nat.le_induction with
  | base =>
    have hstep := step_of_count hc hrun hin hready (by rw [hdiv]; exact hn.ne)
    rw [State.countEdge_engineTurn_of_start hdiv] at hstep
    exact run_succ_of_step (M := Sys2Proof.core) 0 hstep
  | succ n hpos ih =>
    have hcount : (BitVec.ofNat 16 n).toNat = n := by
      obtain ⟨-, -, ⟨-, hP⟩, -⟩ := id hc
      exact Nat.mod_eq_of_lt (by omega)
    have hbelow : (BitVec.ofNat 16 n).toNat + 1 ≠ s.cfg.P := by omega
    have hstep : step (s.afterCounting n) = .next (s.afterCounting n).engineTurn.countEdge := by
      apply step_of_count <;> rw [State.afterCounting_frame] <;> assumption
    rw [State.countEdge_engineTurn_afterCounting s hpos] at hstep
    rw [run_add_of_run (M := Sys2Proof.core) 1 (ih (by omega))]
    exact run_succ_of_step (M := Sys2Proof.core) 0 hstep

/-! ### The tick (R180) -/

/-- Whatever the beat of a tick does, the fault included, the tick is shown and the divider starts again. -/
theorem clockEdge_tick_outcome {s : State} (hrun : s.run = true) (hdiv : s.div.toNat + 1 = s.cfg.P) :
    ∃ t, clockEdge s = .next t ∧ t.pixTick = true ∧ t.div = 0 := by
  have hbeat := beat_eq_fieldBeat s.tickStart
  refine ⟨_, (clockEdge_of_tick hrun hdiv).trans hbeat, ?_⟩
  rcases beat_outcomes hbeat with ⟨d, i, v, -, -, -, ht⟩ | ⟨-, ht⟩
  · rw [tick_frame ht]
    exact ⟨rfl, rfl⟩
  · rw [ht]
    exact ⟨rfl, rfl⟩

/-- From `DIV = 0` the `P`-th edge is the clock edge of a full divider, on a state that differs from the first
in the counting alone (R180, R181). -/
theorem run_period {s : State} (hc : s.cfg.WF) (hrun : s.run = true) (hin : s.inputs = [])
    (hready : s.clrBusy = false) (hdiv : s.div = 0) :
    ∃ w : State, w = { s with div := w.div, slot := w.slot, rspValid := w.rspValid, dacWr := w.dacWr,
                              pixTick := w.pixTick } ∧ w.div.toNat + 1 = w.cfg.P ∧
      ∀ t, clockEdge w = .next t → Sys2Proof.core.run s.cfg.P s = .next t := by
  obtain ⟨-, -, ⟨hP, -⟩, -⟩ := id hc
  have hdiv0 : s.div.toNat = 0 := by rw [hdiv]; rfl
  obtain ⟨v, hv, hvdiv, hframe⟩ := run_count (n := s.cfg.P - 1) hc hrun hin hready (by omega)
  have hsilent : step v = clockEdge v.engineTurn := by
    apply step_of_silent <;> rw [hframe] <;> assumption
  have hcfg : v.cfg = s.cfg := by rw [hframe]
  have hfull : v.div.toNat + 1 = v.cfg.P := by rw [hvdiv, hcfg]; omega
  refine ⟨v.engineTurn, by rw [hframe]; rfl, hfull, fun t ht => ?_⟩
  rw [show s.cfg.P = s.cfg.P - 1 + 1 by omega, run_add_of_run (M := Sys2Proof.core) 1 hv]
  exact run_succ_of_step (M := Sys2Proof.core) 0 (hsilent.trans ht)

/-- A sample is shown with the DAC's pulse (R12, R27). -/
theorem Sent.dacWr {s t : State} {v : Sample} (h : Sent s t v) (hedge : clockEdge s = .next t) :
    t.dacWr = true := by
  obtain ⟨-, -, htrace⟩ := h
  have hshown : t.trace.length = s.trace.length + 2 := congrArg List.length htrace
  rcases clockEdge_cases hedge with ⟨-, rfl⟩ | ⟨-, -, rfl⟩ | ⟨-, -, hbeat⟩
  · simp at hshown
  · simp at hshown
  · rcases beat_outcomes hbeat with ⟨d, i, x, -, hD, hx, rfl⟩ | ⟨-, rfl⟩
    · rcases writeDestination_cases hD hx s.tickStart with ⟨-, hw⟩ | ⟨-, hw⟩ | ⟨-, hw⟩
      · simp [hw]
      · simp [hw] at hshown
      · simp [hw] at hshown
    · simp at hshown

/-! ### The first tick after BEGIN (R183, R204) -/

theorem beatPlan_zero {c : Config} (hc : c.WF) : beatPlan c 0 = ⟨0, 46 * c.R, 0, .table .odd 0⟩ := by
  obtain ⟨-, ⟨-, hR, -⟩, -⟩ := hc
  exact if_pos (by omega)

/-- What BEGIN sets up is the start of a frame (R204). -/
theorem State.beginSuccess_scheduled {s : State} (hc : s.cfg.WF) (hin : s.inputs = [])
    (hready : s.clrBusy = false) : Scheduled s.beginSuccess 0 where
  config := hc
  running := rfl
  silent := hin
  ready := hready
  chain := rfl
  buffer o ho := ⟨_, (blackFrame_read _ o).trans (if_pos ho)⟩
  inFrame := Nat.succ_pos _
  position := by
    obtain ⟨-, ⟨-, -, hR⟩, -⟩ := id hc
    rw [AtBeat, State.beginSuccess_cfg, beatPlan_zero hc]
    exact ⟨rfl, Nat.mod_eq_of_lt (show 46 * s.cfg.R < 2 ^ 16 by omega), rfl⟩

/-- An answer leaves the position and what the engine reads. -/
theorem Scheduled.respond {s : State} {p : Nat} (h : Scheduled s p) (status data : Byte) :
    Scheduled (s.respond status data) p := { h with }

/-- The step that accepts the first successful BEGIN (R202, R204). -/
theorem step_of_first_begin {s : State} (hc : s.cfg.WF) (hbound : s.bound = true) (hbegun : s.begun = false)
    (hacc : Accepts s .begin true true) (hlen : s.inputs.length = 1) :
    step s = .next ((State.sample true true (State.hostTurn { s with inputs := [] })).beginSuccess.respond
      statusOk 0x01) := by
  obtain ⟨hready, hslot, w, hhead, hd⟩ := hacc
  obtain ⟨m, hm⟩ := List.length_eq_one_iff.mp hlen
  have hin : s.inputs = [.command w true true] := by
    rw [hm] at hhead ⊢
    rw [Option.some.inj hhead]
  rw [step_of_command hc hin hready hslot hd,
    State.sampleFor_begin (s := State.hostTurn { s with inputs := [] }) hbound hbegun]
  exact exec_begin_of_success hbound hbegun rfl rfl

/-- The first tick of a frame sends the first sample of the odd timing table (R168, R183). -/
theorem Scheduled.run_first_tick {s : State} (h : Scheduled s 0) (hdiv : s.div = 0) :
    ∃ t, Sys2Proof.core.run s.cfg.P s = .next t ∧ t.pixTick = true ∧ t.div = 0 ∧ t.dacWr = true ∧
      (ttOdd s.cfg)[0]? = some t.dacOut ∧ AtBeat t 1 := by
  obtain ⟨w, hframe, hfull, hlast⟩ := run_period h.config h.running h.silent h.ready hdiv
  have hw : Scheduled w 0 := by rw [hframe]; exact { h with }
  have hcfg : w.cfg = s.cfg := by rw [hframe]
  obtain ⟨t, ht, hat, hperformed, htick⟩ :=
    hw.position.tick hw.config hw.running hw.chain hw.buffer hw.inFrame hfull
  rw [beatPlan_zero hw.config] at hperformed
  obtain ⟨v, hv, hsent⟩ := hperformed
  have hdac := hsent.dacWr ht
  obtain ⟨rfl, -, -⟩ := hsent
  rw [hcfg] at hv
  refine ⟨t, hlast t ht, by rw [htick], by rw [htick], hdac, hv, ?_⟩
  rwa [Nat.mod_eq_of_lt (by omega)] at hat

/-- Settles O34: the counting edges and the tick, from any state with `DIV = 0` and from the one BEGIN leads
to. -/
theorem tickEveryPEdges : Obligations.TickEveryPEdges := by
  refine ⟨fun s hc hrun hdiv hin hready => ⟨fun n hpos hn => ?_, ?_⟩,
    fun s hc hbound hbegun hacc hlen => ⟨_, step_of_first_begin hc hbound hbegun hacc hlen, rfl, rfl, ?_, ?_⟩⟩
  · exact run_afterCounting hc hrun hin hready hdiv hpos hn
  · obtain ⟨w, hframe, hfull, hlast⟩ := run_period hc hrun hin hready hdiv
    obtain ⟨t, ht, htick⟩ := clockEdge_tick_outcome (by rw [hframe]; exact hrun) hfull
    exact ⟨t, hlast t ht, htick⟩
  · obtain ⟨hready, -⟩ := hacc
    intro n hn
    obtain rfl | hpos := Nat.eq_zero_or_pos n
    · exact ⟨_, rfl, rfl, rfl, rfl, rfl, nofun⟩
    · refine ⟨_, run_afterCounting hc rfl rfl hready rfl hpos hn, ?_⟩
      rw [State.afterCounting, if_neg (fun h => nomatch h.2)]
      exact ⟨rfl, rfl, rfl, rfl, fun _ => ⟨rfl, rfl⟩⟩
  · obtain ⟨hready, -⟩ := hacc
    exact ((State.beginSuccess_scheduled (s := State.sample true true (State.hostTurn { s with inputs := [] }))
      hc rfl hready).respond statusOk 0x01).run_first_tick rfl

end Sys2Proof.Machine

/-! The field latch (44_field_latch.md): a beat of MARK_ODD and of MARK_EVEN (R191, R192), and the two latch
commands (R193, R194). -/

namespace Sys2Proof.Machine

/-! ### One beat of MARK_ODD and of MARK_EVEN (R191, R192) -/

/-- A well-formed latch beat writes its constant to the latch and moves the position; nothing else changes
(R163). -/
theorem latchBeat_completes (b : Byte) (next : Reg) (s : State) :
    ∃ t, latchBeat true b next s = .next t ∧
      t = { s with fieldLatch := b, didx := t.didx, bcnt := t.bcnt, sptr := t.sptr, draws := t.draws } ∧
      Moved false next s t :=
  ⟨_, latchBeat_true b next s, State.endBeat_eq false next (s.latchWrite b),
    State.endBeat_moved false next (s.latchWrite b)⟩

/-- Settles O26: a MARK is well-formed as soon as its NEXT lies in the chain, and its constant is the marker of
its kind. -/
theorem markBeats : Obligations.MarkBeats := by
  intro s next hnext
  have hodd : Instr.wellFormed s.cfg (.markOdd next) = true := decide_eq_true hnext
  have heven : Instr.wellFormed s.cfg (.markEven next) = true := decide_eq_true hnext
  rw [exec_markOdd, exec_markEven, hodd, heven]
  exact ⟨latchBeat_completes oddMarker next s, latchBeat_completes evenMarker next s⟩

/-! ### The latch commands (R193, R194) -/

/-- SET_FIELD_HINT writes the latch and answers `OK` (R193). -/
theorem exec_setFieldHint (v : Byte) (s : State) :
    exec (.setFieldHint v) s = .next ((s.latchWrite v).respond statusOk 0) := rfl

/-- GET_FIELD answers `OK` with the latch as its data (R194). -/
theorem exec_getField (s : State) : exec .getField s = .next (s.respond statusOk s.fieldLatch) := rfl

/-- A latch that falls to 0 was written, and of its writers the two MARK beats write 1 and 2 (R28): what is left
is a SET_FIELD_HINT of 0 or a reset. -/
theorem step_fieldLatch_cleared {s t : State} (hstep : step s = .next t) (hs : s.fieldLatch ≠ 0)
    (ht : t.fieldLatch = 0) : (∃ dma mem, Accepts s (.setFieldHint 0) dma mem) ∨ Resets s := by
  have hne : t.fieldLatch ≠ s.fieldLatch := fun h => hs (h.symm.trans ht)
  rcases latchWritersOnly s t hstep hne with ⟨-, -, h⟩ | ⟨-, -, h⟩ | ⟨v, dma, mem, hacc, h⟩ | ⟨hreset, -⟩
  · exact absurd (h.symm.trans ht) (by decide)
  · exact absurd (h.symm.trans ht) (by decide)
  · obtain rfl : v = 0 := h.symm.trans ht
    exact .inl ⟨dma, mem, hacc⟩
  · exact .inr hreset

/-- Settles O39: the two meanings with the response word written out, the reset value, and who clears the latch. -/
theorem latchCommands : Obligations.LatchCommands :=
  ⟨fun s v => ⟨exec_setFieldHint v s, exec_getField s⟩, State.resetWith_fieldLatch,
    fun _ _ => step_fieldLatch_cleared⟩

end Sys2Proof.Machine

/-! Host control (45_host_control.md): CREATE (R201), BEGIN with its checks in order and its start (R202 to
R206), STOP (R207), and the engine that has been stopped (R207, R234). -/

namespace Sys2Proof.Machine

/-! ### CREATE (R201) -/

theorem exec_create_of_supported {mode : Byte} {s : State} (h : mode = s.cfg.modeId) :
    exec (.create mode) s = .next (s.setBound.respond statusOk 0) := if_pos h

theorem exec_create_of_unsupported {mode : Byte} {s : State} (h : mode ≠ s.cfg.modeId) :
    exec (.create mode) s = .next (s.raise .unsupportedMode mode) := if_neg h

/-- Settles O42: the two meanings with the response word written out. -/
theorem createResult : Obligations.CreateResult := fun _ _ =>
  ⟨exec_create_of_supported, exec_create_of_unsupported⟩

/-! ### STOP (R207) -/

theorem exec_stop (s : State) : exec .stop s = .next (s.stopRun.respond statusOk 0) := rfl

/-- Settles O45, with the response word written out. -/
theorem stopResult : Obligations.StopResult := exec_stop

/-! ### What BEGIN answers (R202, R205, R206) -/

theorem exec_begin_of_not_bound {s : State} (hbound : s.bound = false) :
    exec .begin s = .next (s.raise .notBound 0) := by
  simp [exec, execBegin, hbound]

theorem exec_begin_of_begun {s : State} (hbound : s.bound = true) (hbegun : s.begun = true) :
    exec .begin s = .next (s.respond statusOk (beginData s.fault)) := by
  simp [exec, execBegin, hbound, hbegun]

theorem exec_begin_of_exhausted {s : State} (hbound : s.bound = true) (hbegun : s.begun = false)
    (hres : s.dmaAvail = false ∨ s.memAvail = false) :
    exec .begin s = .next (s.raise .resourceExhausted (exhaustedData s.dmaAvail s.memAvail)) := by
  have hboth : (s.dmaAvail && s.memAvail) = false := Bool.and_eq_false_iff.mpr hres
  simp [exec, execBegin, hbound, hbegun, hboth]

/-- The answer true, with `FAULT` in bit 3 (R206, R216). -/
theorem statusOk_append_beginData (fault : Bool) :
    statusOk ++ beginData fault = if fault then (0x0009 : BitVec 16) else 0x0001 := by
  cases fault <;> rfl

/-- The response `ResourceExhausted`: bit 1 for the DMA channel, bit 2 for the memory (R205, R216). -/
theorem toNat_exhausted_response (dma mem : Bool) :
    (errorStatus .resourceExhausted ++ exhaustedData dma mem).toNat =
      0x0100 + (if mem then 0 else 4) + (if dma then 0 else 2) := by
  cases dma <;> cases mem <;> rfl

/-- Settles O43: the four outcomes of the checks, with the response words written out. -/
theorem beginAnswers : Obligations.BeginAnswers := by
  refine fun s => ⟨exec_begin_of_not_bound, fun hbound hbegun => ?_, fun hbound hbegun hres => ?_,
    fun hbound hbegun hdma hmem => ⟨_, exec_begin_of_success hbound hbegun hdma hmem, rfl⟩⟩
  · rw [exec_begin_of_begun hbound hbegun, State.respond, statusOk_append_beginData]
  · exact ⟨_, toNat_exhausted_response s.dmaAvail s.memAvail, exec_begin_of_exhausted hbound hbegun hres⟩

/-! ### What the first success of BEGIN sets up (R204) -/

/-- It stands at the first beat of descriptor 0 of the built chain (R38). -/
theorem State.beginSuccess_positionOk {s : State} (hc : s.cfg.WF) : PositionOk s.beginSuccess :=
  positionOk_of_loaded hc rfl (show (0 : Reg).toNat < numDescriptors by decide)
    (by simp [chainBuild, chainInstr, encode]) (by simp [chainBuild, chainInstr, encode])

/-- It stands at beat 0 of a frame, whatever the port and the moves to come are: `AtBeat` speaks of the working
registers alone (R168). -/
theorem State.beginSuccess_atBeat {s : State} (hc : s.cfg.WF) : AtBeat s.beginSuccess 0 :=
  (State.beginSuccess_scheduled (s := { s with inputs := [], clrBusy := false }) hc rfl rfl).position

/-- Settles O44: the state of R204, the black frame and the built chain by index, and what they are worth to the
engine. -/
theorem beginStarts : Obligations.BeginStarts := by
  intro s hc hbound hbegun hdma hmem
  refine ⟨_, exec_begin_of_success hbound hbegun hdma hmem, rfl, fun row col hrow hcol => ?_, fun i hi => ?_,
    State.beginSuccess_positionOk hc, State.beginSuccess_bufferOk hc, State.beginSuccess_atBeat hc⟩
  · exact blackFrame_read_row hrow hcol
  · exact (builtChain_read s.cfg i).trans (if_pos hi)

/-! ### The stopped engine (R207, R234) -/

/-- What of a state only reset, the first successful BEGIN and a running engine touch, `RUN` apart, which STOP
clears too: `BEGUN`, the working registers, the chain, the DAC, and the two pulses of a tick. -/
structure EngineView where
  begun : Bool
  run : Bool
  didx : Reg
  bcnt : Reg
  sptr : Reg
  div : Reg
  chain : Memory 64
  dacOut : Sample
  dacWr : Bool
  pixTick : Bool

/-- The view of a state. -/
def State.engineView (s : State) : EngineView where
  begun := s.begun
  run := s.run
  didx := s.didx
  bcnt := s.bcnt
  sptr := s.sptr
  div := s.div
  chain := s.chain
  dacOut := s.dacOut
  dacWr := s.dacWr
  pixTick := s.pixTick

/-- From `s` to `t` nothing of the engine changes, and at most one response is observed. -/
structure EngineRests (s t : State) : Prop where
  view : t.engineView = s.engineView
  trace : t.trace = s.trace ∨ ∃ r, t.trace = .rsp r :: s.trace

theorem EngineRests.refl (s : State) : EngineRests s s := ⟨rfl, .inl rfl⟩

/-- A store of a CLEAR is the host's, and only the last one responds (R146, R149). -/
theorem State.clearStore_engineRests (k : Nat) (s : State) : EngineRests s (s.clearStore k) := by
  refine ⟨by simp [engineView], ?_⟩
  have hfinish (u : State) : u.clearFinish.trace = u.trace ∨ ∃ r, u.clearFinish.trace = .rsp r :: u.trace := by
    by_cases h : u.clrPend = []
    · rw [clearFinish_of_nil h]
      exact .inr ⟨_, rfl⟩
    · rw [clearFinish_of_ne h]
      exact .inl rfl
  rcases s.clearStore_cases k with ⟨-, e⟩ | ⟨-, -, e⟩ | ⟨-, o, -, e⟩ <;> rw [e]
  · exact .inl rfl
  · exact hfinish s
  · exact hfinish _

/-- Once begun and stopped the engine is out of every command's reach: BEGIN does not start it again and STOP
finds `RUN` cleared (R206, R207). -/
theorem exec_command_engineRests {i : Instr} {s t : State} (hbegun : s.begun = true) (hrun : s.run = false)
    (hi : i.isDescriptor = false) (h : exec i s = .next t) : EngineRests s t := by
  rcases exec_command_cases hi h with ⟨st, d, rfl⟩ | ⟨-, rfl⟩ | ⟨-, -, hnot, -⟩ | ⟨-, rfl⟩ |
    ⟨rot, px, py, b, -, -, -, -, rfl⟩ | ⟨-, -, rfl⟩ | ⟨v, -, rfl⟩
  · exact ⟨rfl, .inr ⟨_, rfl⟩⟩
  · exact ⟨rfl, .inr ⟨_, rfl⟩⟩
  · exact absurd (hnot.symm.trans hbegun) Bool.false_ne_true
  · exact ⟨by simp [State.engineView, hrun], .inr ⟨_, rfl⟩⟩
  · exact ⟨rfl, .inr ⟨_, rfl⟩⟩
  · exact ⟨rfl, .inl rfl⟩
  · exact ⟨rfl, .inr ⟨_, rfl⟩⟩

/-- After the first success no command samples the availability inputs (R203). -/
theorem State.sampleFor_of_begun {i : Instr} {dma mem : Bool} {s : State} (h : s.begun = true) :
    s.sampleFor i dma mem = s := if_neg fun ⟨_, _, hnot⟩ => Bool.false_ne_true (hnot.symm.trans h)

theorem presentCommand_engineRests {w : Word} {dma mem : Bool} {s t : State} (hbegun : s.begun = true)
    (hrun : s.run = false) (h : presentCommand w dma mem s = .next t) : EngineRests s t := by
  rcases presentCommand_cases h with ⟨-, rfl⟩ | ⟨-, i, hd, he⟩ | ⟨-, -, rfl⟩
  · exact .refl t
  · rw [State.sampleFor_of_begun hbegun] at he
    exact exec_command_engineRests hbegun hrun (decodeCommand_isCommand hd) he
  · exact ⟨rfl, .inr ⟨_, rfl⟩⟩

/-- Every step of a stopped engine but a reset prepares the state for a move that lets the engine rest. -/
theorem step_engineRests {s t : State} (hbegun : s.begun = true) (hrun : s.run = false)
    (hstep : step s = .next t) (hreset : ¬ Resets s) : ∃ s', Prepared s s' ∧ EngineRests s' t := by
  obtain ⟨-, s', hs', hmove⟩ := step_cases hstep
  have hbegun' : s'.begun = true := by rw [hs'.eq]; exact hbegun
  have hrun' : s'.run = false := by rw [hs'.eq]; exact hrun
  refine ⟨s', hs', ?_⟩
  rcases hmove with ⟨hedge, -⟩ | ⟨-, w, dma, mem, -, hcmd⟩ | ⟨k, rfl⟩ | ⟨hslot, dac, hin, -⟩
  · rw [clockEdge_of_stopped hrun'] at hedge
    injection hedge with hedge
    exact hedge ▸ .refl s'
  · exact presentCommand_engineRests hbegun' hrun' hcmd
  · exact s'.clearStore_engineRests k
  · exact absurd ⟨hslot, dac, by rw [hin]; rfl⟩ hreset

/-- A step from which the engine rests keeps all of its view but pulses that go low. -/
theorem Prepared.engineRests {s s' t : State} (hs' : Prepared s s') (h : EngineRests s' t) :
    t.engineView = { s.engineView with dacWr := s'.dacWr, pixTick := s'.pixTick } ∧
      (t.trace = s.trace ∨ ∃ r, t.trace = .rsp r :: s.trace) := by
  have hview := h.view
  have htrace := h.trace
  rw [hs'.eq] at hview htrace
  exact ⟨hview, htrace⟩

/-- An edge move on a stopped engine that opens an edge of `clk` does nothing but let the pulses go low (R12,
R181). -/
theorem step_edge_of_stopped {s : State} {rest : List Input} (hc : s.cfg.WF) (hrun : s.run = false)
    (hslot : s.slot ≠ .hostDone) (hin : s.inputs = .edge :: rest) :
    step s = .next { s.quiet with inputs := rest, slot := .engineDone } :=
  calc step s = clockEdge (State.engineTurn { s with inputs := rest }) := step_of_listed hc hin rfl
    _ = .next (State.engineTurn { s with inputs := rest }) := clockEdge_of_stopped hrun
    _ = .next { s.quiet with inputs := rest, slot := .engineDone } :=
      congrArg _ (State.engineTurn_of_ne_hostDone hslot)

/-- Settles O46: the engine rests on every step but a reset, and its pulses are those of the prepared state. -/
theorem stoppedForGood : Obligations.StoppedForGood := by
  intro s t hbegun hrun hstep hreset
  obtain ⟨s', hs', hrests⟩ := step_engineRests hbegun hrun hstep hreset
  obtain ⟨hview, htrace⟩ := hs'.engineRests hrests
  injection hview with hbegun' hrun' hdidx hbcnt hsptr hdiv hchain hdac hwr htick
  refine ⟨hbegun'.trans hbegun, hrun'.trans hrun, hdidx, hbcnt, hsptr, hdiv, hchain, hdac,
    fun h => hs'.dacWr (hwr ▸ h), fun h => hs'.pixTick (htick ▸ h), fun hslot hedge => ?_, htrace⟩
  obtain ⟨hc, -⟩ := step_cases hstep
  obtain ⟨rest, hin⟩ := List.head?_eq_some_iff.mp hedge
  rw [step_edge_of_stopped hc hrun hslot hin] at hstep
  injection hstep with hstep
  subst hstep
  exact ⟨rfl, rfl⟩

end Sys2Proof.Machine

/-! Errors, faults and the life cycle (60_exceptions.md): what an accepted command answers (R216) and that an
error changes nothing (R217), the engine fault (R222), how acceptances share the edges (R12, log entry 24), the
transitions of the life cycle (R229), and that no run faults or is left without a next state (R215). -/

namespace Sys2Proof.Machine

/-! ### The life cycle (R229) -/

/-- The life-cycle state is a matter of the four flags. -/
theorem State.phase_congr {s t : State} (hbound : t.bound = s.bound) (hbegun : t.begun = s.begun)
    (hrun : t.run = s.run) (hfault : t.fault = s.fault) : t.phase = s.phase := by
  simp only [phase, hbound, hbegun, hrun, hfault]

/-- Without the engine fault the three other flags tell the four states apart. -/
theorem State.Inv.phase_eq {s : State} (h : s.Inv) : s.phase =
    if s.begun then (if s.run then .running else .stopped) else if s.bound then .bound else .unbound := by
  rw [phase, h.noFault, if_neg Bool.false_ne_true]

/-- Before CREATE nothing has begun (R202). -/
theorem State.Inv.begun_of_not_bound {s : State} (h : s.Inv) (hbound : s.bound = false) : s.begun = false := by
  by_contra hbegun
  have hb := h.boundFirst (Bool.eq_true_of_not_eq_false hbegun)
  exact Bool.false_ne_true (hbound.symm.trans hb)

/-- Settles O60, effect by effect: a CREATE of a bound block and a STOP of one that does not run leave the flags
as they are, and the invariant excludes the engine fault. -/
theorem lifeCycleTransitions : Obligations.LifeCycleTransitions := by
  intro s t h hstep hne
  obtain ⟨x, -, e⟩ := step_effect hstep
  have ht := h.stepEffect e
  have hphase := h.phase_eq
  have hphase' := ht.phase_eq
  cases e with
  | create hacc =>
    cases hbound : s.bound with
    | true => exact (hne (State.phase_congr hbound.symm rfl rfl rfl)).elim
    | false =>
      have hbegun := h.begun_of_not_bound hbound
      exact .inr (.inl
        ⟨by simpa [hbound, hbegun] using hphase, ⟨_, _, hacc⟩, by simpa [hbegun] using hphase'⟩)
  | begin hacc hbound hbegun =>
    exact .inr (.inr (.inl ⟨by simpa [hbound, hbegun] using hphase, hacc, by simpa using hphase'⟩))
  | stop hacc =>
    cases hrun : s.run with
    | false => exact (hne (State.phase_congr rfl rfl hrun.symm rfl)).elim
    | true =>
      have hbegun := h.begunFirst hrun
      exact .inr (.inr (.inr
        ⟨by simpa [hbegun, hrun] using hphase, ⟨_, _, hacc⟩, by simpa [hbegun] using hphase'⟩))
  | reset hreset => exact .inl ⟨hreset, rfl⟩
  | fault => exact absurd ht.noFault (Ne.symm Bool.false_ne_true)
  | beat | clearStore => exact absurd (State.phase_congr (by simp) (by simp) (by simp) (by simp)) hne
  | _ => exact absurd rfl hne

/-! ### The engine fault (R222) -/

/-- A `DIDX` outside the chain, an `undef` entry and an illegal word perform no beat. -/
theorem beat_of_bad_descriptor {s : State}
    (h : numDescriptors ≤ s.didx.toNat ∨ s.chain.read s.didx.toNat = none ∨
      ∃ d e, s.chain.read s.didx.toNat = some d ∧ decodeD s.cfg d = .error e) :
    beat s = .next s.engineFault := by
  by_cases hidx : s.didx.toNat < numDescriptors
  · have hfetch : fetchDescriptor s = s.chain.read s.didx.toNat := if_pos hidx
    rcases h with hout | hundef | ⟨d, e, hread, hD⟩
    · exact absurd hidx (not_lt.mpr hout)
    · exact beat_of_undef (hfetch.trans hundef)
    · exact beat_of_illegal (hfetch.trans hread) hD
  · exact beat_of_undef (if_neg hidx)

/-- `FAULT` is sticky until reset (R29). -/
theorem step_fault_sticky {s t : State} (hs : s.fault = true) (hstep : step s = .next t) :
    t.fault = true ∨ Resets s := by
  obtain ⟨x, -, e⟩ := step_effect hstep
  by_cases hsame : t.fault = s.fault
  · exact .inl (hsame.trans hs)
  · rcases e.fault_of_ne hsame with ⟨hset, -⟩ | ⟨-, hreset⟩
    · exact .inl hset
    · exact .inr hreset

/-- A BEGIN shows the fault in bit 3 (R206, R216). -/
theorem exec_begin_of_faulted {s : State} (hbound : s.bound = true) (hbegun : s.begun = true)
    (hfault : s.fault = true) : exec .begin s =
      .next { s with rsp := 0x0009, rspValid := true, trace := .rsp 0x0009 :: s.trace } := by
  rw [exec_begin_of_begun hbound hbegun, State.respond, statusOk_append_beginData, if_pos hfault]

/-- Settles O28, clause by clause; no run has the fault since the invariant excludes it. -/
theorem badDescriptorFault : Obligations.BadDescriptorFault :=
  ⟨fun _ _ => exec_of_not_wellFormed, fun _ => beat_of_bad_descriptor, fun _ => clockEdge_of_stopped,
    fun _ => exec_begin_of_faulted, fun _ _ => step_fault_sticky, fun _ _ hc h => (h.inv hc).noFault⟩

/-! ### No run faults or stops (R215) -/

/-- The engine always takes its step of an edge (R181, R222). -/
theorem clockEdge_next (s : State) : ∃ t, clockEdge s = .next t := by
  cases hrun : s.run with
  | false => exact ⟨s, clockEdge_of_stopped hrun⟩
  | true =>
    by_cases hdiv : s.div.toNat + 1 = s.cfg.P
    · exact ⟨_, (clockEdge_of_tick hrun hdiv).trans (beat_eq_fieldBeat _)⟩
    · exact ⟨_, clockEdge_of_count hrun hdiv⟩

/-- So does the silent world (R71, R149). -/
theorem idleMove_next (s : State) : ∃ t, idleMove s = .next t := by
  unfold idleMove
  split_ifs
  · split
    · exact ⟨_, rfl⟩
    · exact clockEdge_next _
  · exact clockEdge_next _

section
variable {s : State} (hc : s.cfg.WF) (hnoop : s.cfg.earlyDraw = .noop)
include hc hnoop

/-- Where draws before BEGIN are no-ops every host command has a next state. -/
theorem exec_command_next {i : Instr} (hi : i.isDescriptor = false) : ∃ t, exec i s = .next t := by
  cases i with
  | create mode =>
    by_cases hmode : mode = s.cfg.modeId
    · exact ⟨_, exec_create_of_supported hmode⟩
    · exact ⟨_, exec_create_of_unsupported hmode⟩
  | begin =>
    simp only [exec, execBegin]
    split_ifs <;> exact ⟨_, rfl⟩
  | stop => exact ⟨_, exec_stop s⟩
  | setPixel rot x y b =>
    cases hbegun : s.begun with
    | false => exact ⟨_, (exec_setPixel_of_not_begun hbegun).trans (beforeBegin_of_noop hnoop)⟩
    | true =>
      cases hclip : clipped s.cfg rot x.toInt y.toInt with
      | true => exact ⟨_, exec_setPixel_of_clipped hbegun hclip⟩
      | false => exact ⟨_, exec_setPixel_of_inside hc hbegun hclip⟩
  | clear =>
    cases hbegun : s.begun with
    | false => exact ⟨_, (exec_clear_of_not_begun hbegun).trans (beforeBegin_of_noop hnoop)⟩
    | true => exact ⟨_, exec_clear_of_begun hbegun⟩
  | setFieldHint v => exact ⟨_, exec_setFieldHint v s⟩
  | getField => exact ⟨_, exec_getField s⟩
  | _ => cases hi

theorem presentCommand_next (w : Word) (dma mem : Bool) : ∃ t, presentCommand w dma mem s = .next t := by
  unfold presentCommand
  split_ifs
  · exact ⟨s, rfl⟩
  · split
    · next i hd => exact exec_command_next (by simpa using hc) (by simpa using hnoop) (decodeCommand_isCommand hd)
    · exact ⟨_, rfl⟩

theorem move_next (i : Input) : ∃ t, move i s = .next t := by
  cases i with
  | edge => exact clockEdge_next _
  | command w dma mem => exact presentCommand_next (s := s.hostTurn) hc hnoop w dma mem
  | clearStore | reset => exact ⟨_, rfl⟩

/-- Every step then has a next state: neither agent's move faults or is refused. -/
theorem step_next : ∃ t, step s = .next t := by
  rw [step, nextMove, if_pos hc]
  split
  · exact idleMove_next s
  · next i rest _ =>
    split_ifs
    · exact clockEdge_next _
    · exact move_next (s := { s with inputs := rest }) hc hnoop i

end

/-- Settles O55: the invariant excludes the fault, and its configuration is the run's. -/
theorem runsNeverFaultOrStop : Obligations.RunsNeverFaultOrStop := by
  intro c s hc h
  have hcfg := h.cfg_eq
  exact ⟨(h.inv hc).noFault, fun hnoop => step_next (hcfg ▸ hc) (hcfg ▸ hnoop)⟩

/-! ### The answer to a command (R216, R217) -/

/-- The statuses of the errors are 1 to 4 (R216). -/
theorem toNat_errorStatus_le (e : CmdError) : (errorStatus e).toNat ≤ 4 := by cases e <;> decide

/-- A host command either raises an error, which changes nothing but the response, or answers `OK`, or is a CLEAR
whose response is still to come. -/
theorem exec_command_answer {i : Instr} {s t : State} (hi : i.isDescriptor = false) (h : exec i s = .next t) :
    (∃ e info, t = s.raise e info) ∨
    (∃ (u : State) (data : Byte), t = u.respond statusOk data ∧ u.trace = s.trace) ∨
    (i = .clear ∧ s.begun = true ∧ t = s.clearStart) := by
  cases i with
  | create mode =>
    by_cases hmode : mode = s.cfg.modeId
    · rw [exec_create_of_supported hmode] at h
      cases h
      exact .inr (.inl ⟨_, _, rfl, rfl⟩)
    · rw [exec_create_of_unsupported hmode] at h
      cases h
      exact .inl ⟨_, _, rfl⟩
  | begin =>
    simp only [exec, execBegin] at h
    split_ifs at h <;> cases h
    · exact .inr (.inl ⟨_, _, rfl, rfl⟩)
    · exact .inr (.inl ⟨_, _, rfl, rfl⟩)
    · exact .inl ⟨_, _, rfl⟩
    · exact .inl ⟨_, _, rfl⟩
  | setPixel rot x y b =>
    simp only [exec, execSetPixel] at h
    split_ifs at h
    · cases h
      exact .inr (.inl ⟨_, _, rfl, rfl⟩)
    · obtain ⟨-, rfl⟩ := pixelStore_cases h
      exact .inr (.inl ⟨_, _, rfl, rfl⟩)
    · obtain ⟨-, rfl⟩ := beforeBegin_cases h
      exact .inr (.inl ⟨_, _, rfl, rfl⟩)
  | clear =>
    simp only [exec, execClear] at h
    split_ifs at h with hbegun
    · cases h
      exact .inr (.inr ⟨rfl, hbegun, rfl⟩)
    · obtain ⟨-, rfl⟩ := beforeBegin_cases h
      exact .inr (.inl ⟨_, _, rfl, rfl⟩)
  | stop | setFieldHint | getField =>
    cases h
    exact .inr (.inl ⟨_, _, rfl, rfl⟩)
  | _ => cases hi

/-- `s` after the sampling the acceptance of the word `w` does (R12, R203). -/
def State.sampledBy (w : Word) (dma mem : Bool) (s : State) : State :=
  if decodeCommand w = .ok .begin ∧ s.bound = true ∧ s.begun = false then s.sample dma mem else s

theorem State.sampleFor_eq_sampledBy {w : Word} {i : Instr} (hd : decodeCommand w = .ok i) (dma mem : Bool)
    (s : State) : s.sampleFor i dma mem = s.sampledBy w dma mem := by
  simp only [sampleFor, sampledBy, hd, Except.ok.injEq]

theorem State.sampledBy_of_illegal {w : Word} {e : DecodeError} (hd : decodeCommand w = .error e)
    (dma mem : Bool) (s : State) : s.sampledBy w dma mem = s := by
  simp only [sampledBy, hd, reduceCtorEq, false_and, if_false]

/-- What a ready port answers to a word. -/
theorem presentCommand_answer {w : Word} {dma mem : Bool} {s t : State} (hready : s.clrBusy = false)
    (h : presentCommand w dma mem s = .next t) :
    (∃ e info, t = (s.sampledBy w dma mem).raise e info) ∨
    (∃ (u : State) (data : Byte), t = u.respond statusOk data ∧ u.trace = s.trace) ∨
    (decodeCommand w = .ok .clear ∧ s.begun = true ∧ t = s.clearStart) := by
  rcases presentCommand_cases h with ⟨hbusy, -⟩ | ⟨-, i, hd, he⟩ | ⟨-, ⟨e, hd⟩, rfl⟩
  · exact absurd (hready.symm.trans hbusy) Bool.false_ne_true
  · rcases exec_command_answer (decodeCommand_isCommand hd) he with
      ⟨e, info, rfl⟩ | ⟨u, data, rfl, hu⟩ | ⟨rfl, hbegun, rfl⟩
    · exact .inl ⟨e, info, by rw [State.sampleFor_eq_sampledBy hd]⟩
    · exact .inr (.inl ⟨u, data, rfl, hu.trans (State.sampleFor_trace ..)⟩)
    · rw [State.sampleFor_of_ne (by decide)] at hbegun ⊢
      exact .inr (.inr ⟨hd, hbegun, rfl⟩)
  · exact .inl ⟨_, _, by rw [State.sampledBy_of_illegal hd]⟩

/-- Settles O47: a response that is not `OK` was raised, on the state as sampled. -/
theorem commandErrorsChangeNothing : Obligations.CommandErrorsChangeNothing := by
  intro w dma mem s t h hquiet hvalid herr
  by_cases hbusy : s.clrBusy = true
  · rw [presentCommand_of_busy w dma mem hbusy] at h
    cases h
    exact absurd (hquiet.symm.trans hvalid) Bool.false_ne_true
  · rcases presentCommand_answer (Bool.eq_false_of_not_eq_true hbusy) h with
      ⟨e, info, rfl⟩ | ⟨u, data, rfl, -⟩ | ⟨-, -, rfl⟩
    · unfold State.sampledBy
      split_ifs <;> exact ⟨rfl, rfl, rfl⟩
    · exact absurd (BitVec.extractLsb'_append_eq_left) herr
    · exact absurd (hquiet.symm.trans hvalid) Bool.false_ne_true

/-! ### How acceptances share the edges (R12, log entry 24) -/

/-- In `s` the command `i` is the BEGIN that starts the engine (R202, R204). -/
abbrev Starts (i : Instr) (s : State) : Prop :=
  i = .begin ∧ s.bound = true ∧ s.begun = false ∧ s.dmaAvail = true ∧ s.memAvail = true

/-- Whether it does is decided by the inputs on its edge (R203). -/
theorem starts_sampleFor_iff (i : Instr) (dma mem : Bool) (s : State) :
    Starts i (s.sampleFor i dma mem) ↔
      i = .begin ∧ s.bound = true ∧ s.begun = false ∧ dma = true ∧ mem = true := by
  rw [Starts, State.sampleFor_bound, State.sampleFor_begun]
  refine and_congr_right fun hi => and_congr_right fun hbound => and_congr_right fun hbegun => ?_
  rw [hi, State.sampleFor_begin hbound hbegun]
  rfl

/-- A host command keeps the pulses of a tick and the mark of the edge, but for the BEGIN that starts the engine,
whose edge is over with it (R183). -/
theorem exec_command_edge {i : Instr} {s t : State} (hi : i.isDescriptor = false) (h : exec i s = .next t) :
    t.dacWr = s.dacWr ∧ t.pixTick = s.pixTick ∧
      t.slot = if Starts i s then .fresh else s.slot := by
  by_cases hstarts : Starts i s
  · rw [if_pos hstarts]
    obtain ⟨rfl, hbound, hbegun, hdma, hmem⟩ := hstarts
    rw [exec_begin_of_success hbound hbegun hdma hmem] at h
    cases h
    exact ⟨rfl, rfl, rfl⟩
  · rw [if_neg hstarts]
    rcases exec_command_cases hi h with ⟨st, d, rfl⟩ | ⟨-, rfl⟩ | ⟨hbegin, hbound, hbegun, hdma, hmem, -⟩ |
      ⟨-, rfl⟩ | ⟨rot, px, py, b, -, -, -, -, rfl⟩ | ⟨-, -, rfl⟩ | ⟨v, -, rfl⟩
    · exact ⟨rfl, rfl, rfl⟩
    · exact ⟨rfl, rfl, rfl⟩
    · exact absurd ⟨hbegin, hbound, hbegun, hdma, hmem⟩ hstarts
    · exact ⟨rfl, rfl, rfl⟩
    · exact ⟨rfl, rfl, rfl⟩
    · exact ⟨rfl, rfl, rfl⟩
    · exact ⟨rfl, rfl, rfl⟩

/-- An acceptance, its edge seen from the host's turn of it. -/
theorem step_of_accepts_edge {s t : State} {i : Instr} {dma mem : Bool} (hacc : Accepts s i dma mem)
    (hstep : step s = .next t) :
    t.dacWr = s.hostTurn.dacWr ∧ t.pixTick = s.hostTurn.pixTick ∧
      t.slot = if i = .begin ∧ s.bound = true ∧ s.begun = false ∧ dma = true ∧ mem = true then .fresh
        else s.hostTurn.slot := by
  obtain ⟨hready, hslot, w, hhead, hd⟩ := hacc
  obtain ⟨hc, -⟩ := step_cases hstep
  obtain ⟨rest, hin⟩ := List.head?_eq_some_iff.mp hhead
  rw [step_of_command hc hin hready hslot hd] at hstep
  obtain ⟨hwr, htick, hmark⟩ := exec_command_edge (decodeCommand_isCommand hd) hstep
  rw [State.sampleFor_slot] at hmark
  exact ⟨hwr.trans (State.sampleFor_dacWr ..), htick.trans (State.sampleFor_pixTick ..),
    hmark.trans (if_congr (starts_sampleFor_iff ..) rfl rfl)⟩

/-- Everything a step can do, with the turn its agent took of the edge (R12). -/
theorem step_turn {s t : State} (h : step s = .next t) :
    ∃ u : State, u = { s with inputs := u.inputs, draws := u.draws } ∧
      (clockEdge u.engineTurn = .next t ∨
        (s.slot ≠ .hostDone ∧ ∃ w dma mem, presentCommand w dma mem u.hostTurn = .next t) ∨
        (∃ k, t = u.storeTurn.clearStore k) ∨ Resets s) := by
  obtain ⟨hc, -⟩ := step_cases h
  rw [step, nextMove, if_pos hc] at h
  split at h
  · unfold idleMove at h
    split_ifs at h
    · split at h
      · next k _ =>
        cases h
        exact ⟨s.drawn, rfl, .inr (.inr (.inl ⟨k, rfl⟩))⟩
      · exact ⟨s.drawn, rfl, .inl h⟩
    · exact ⟨s, rfl, .inl h⟩
  · next i rest hin =>
    split_ifs at h with hw
    · exact ⟨s, rfl, .inl h⟩
    · refine ⟨{ s with inputs := rest }, rfl, ?_⟩
      cases i with
      | edge => exact .inl h
      | command w dma mem => exact .inr (.inl ⟨by simpa [State.waits] using hw, w, dma, mem, h⟩)
      | clearStore k =>
        cases h
        exact .inr (.inr (.inl ⟨k, rfl⟩))
      | reset dac => exact .inr (.inr (.inr ⟨by simpa [State.waits] using hw, dac, by rw [hin]; rfl⟩))

/-- On the edge the host has opened a store of a CLEAR changes neither the mark nor the pulses. -/
theorem State.storeTurn_of_hostDone {s : State} (h : s.slot = .hostDone) : s.storeTurn = s := by
  cases s
  cases h
  simp [storeTurn, quietIf]

/-- While the edge is marked taken by the host, the step is a store of a CLEAR or the engine's of this edge. -/
theorem step_of_hostDone {s t : State} (hslot : s.slot = .hostDone) (hstep : step s = .next t) :
    ∃ u : State, u = { s with inputs := u.inputs, draws := u.draws } ∧
      ((∃ k, t = u.clearStore k) ∨ clockEdge { u with slot := .fresh } = .next t) := by
  obtain ⟨u, hu, hturn⟩ := step_turn hstep
  have huslot : u.slot = .hostDone := by rw [hu, hslot]
  refine ⟨u, hu, ?_⟩
  rcases hturn with hedge | ⟨hne, -⟩ | ⟨k, hk⟩ | ⟨hne, -⟩
  · exact .inr (by rwa [State.engineTurn_of_hostDone huslot] at hedge)
  · exact absurd hslot hne
  · exact .inl ⟨k, by rwa [State.storeTurn_of_hostDone huslot] at hk⟩
  · exact absurd hslot hne

/-- The end of a CLEAR takes the host's turn of its edge. -/
theorem State.clearFinish_slot_of_ends {s : State} (hbusy : s.clrBusy = true)
    (hend : s.clearFinish.clrBusy = false) : s.clearFinish.slot = s.slot.afterHost := by
  by_cases hnil : s.clrPend = []
  · rw [clearFinish_of_nil hnil]
    rfl
  · rw [clearFinish_of_ne hnil] at hend
    exact absurd (hend.symm.trans hbusy) Bool.false_ne_true

theorem State.clearStore_slot_of_ends {s : State} {k : Nat} (hbusy : s.clrBusy = true)
    (hend : (s.clearStore k).clrBusy = false) : (s.clearStore k).slot = s.slot.afterHost := by
  rcases s.clearStore_cases k with ⟨hready, -⟩ | ⟨-, -, e⟩ | ⟨-, o, -, e⟩
  · exact absurd (hready.symm.trans hbusy) Bool.false_ne_true
  · rw [e] at hend ⊢
    exact clearFinish_slot_of_ends hbusy hend
  · rw [e] at hend ⊢
    exact clearFinish_slot_of_ends hbusy hend

/-- The store that opens an edge opens it for the host. -/
theorem State.storeTurn_slot_afterHost {s : State} (hbusy : s.clrBusy = true) :
    s.storeTurn.slot.afterHost = s.slot.afterHost := by
  cases hslot : s.slot <;> simp [hbusy, hslot]

/-- A CLEAR ends by reset or by its last store, which leaves no command for its edge (R149). -/
theorem step_slot_of_clear_ends {s t : State} (hbusy : s.clrBusy = true) (hstep : step s = .next t)
    (hend : t.clrBusy = false) :
    t.slot = (if s.slot = .engineDone then .fresh else .hostDone) ∨ Resets s := by
  obtain ⟨u, hu, hturn⟩ := step_turn hstep
  have hubusy : u.clrBusy = true := by rw [hu, hbusy]
  have huslot : u.slot = s.slot := by rw [hu]
  rcases hturn with hedge | ⟨-, w, dma, mem, hcmd⟩ | ⟨k, rfl⟩ | hreset
  · have hkept : t.clrBusy = true := (clockEdge_clrBusy hedge).trans hubusy
    exact absurd (hend.symm.trans hkept) Bool.false_ne_true
  · rw [presentCommand_of_busy (s := u.hostTurn) w dma mem hubusy] at hcmd
    cases hcmd
    exact absurd (hend.symm.trans hubusy) Bool.false_ne_true
  · left
    rw [State.clearStore_slot_of_ends (s := u.storeTurn) hubusy hend, State.storeTurn_slot_afterHost hubusy, huslot,
      EdgeSlot.afterHost_eq]
  · exact .inr hreset

/-- Settles O48: the answer of the port, the edge of an acceptance, and the steps of an edge the host has taken. -/
theorem oneResponsePerCommand : Obligations.OneResponsePerCommand := by
  refine ⟨fun w dma mem s t hready h => ?_, fun s t i dma mem hacc hstep => ?_,
    fun s i dma mem hslot ⟨_, hne, _⟩ => hne hslot, fun s t => step_of_hostDone,
    fun s t => step_slot_of_clear_ends⟩
  · rcases presentCommand_answer hready h with ⟨e, info, rfl⟩ | ⟨u, data, rfl, hu⟩ | ⟨hd, hbegun, rfl⟩
    · refine .inl ⟨rfl, ?_, ?_⟩
      · unfold State.sampledBy
        split_ifs <;> rfl
      · rw [State.raise_rsp, BitVec.extractLsb'_append_eq_left]
        exact toNat_errorStatus_le e
    · refine .inl ⟨rfl, by simp [hu], ?_⟩
      rw [State.respond_rsp, BitVec.extractLsb'_append_eq_left]
      decide
    · exact .inr ⟨hd, hbegun, rfl, rfl⟩
  · obtain ⟨hwr, htick, hmark⟩ := step_of_accepts_edge hacc hstep
    obtain ⟨hready, -⟩ := hacc
    refine ⟨fun hslot => ?_, fun hslot => ?_, fun hslot => ?_, fun hslot => ?_⟩
    · rwa [State.hostTurn_of_fresh hready hslot] at hmark
    · rw [State.hostTurn_of_engineDone hready hslot, ite_self] at hmark
      exact hmark
    · rw [State.hostTurn_of_fresh hready hslot] at hwr htick
      exact ⟨hwr, htick⟩
    · rw [State.hostTurn_of_engineDone hready hslot] at hwr htick
      exact ⟨hwr, htick⟩

end Sys2Proof.Machine

/-! Reset (70_reset_and_hazards.md R245): a rising edge with `rst = 1`. -/

namespace Sys2Proof.Machine

/-- A listed reset that no edge holds up is made by the next step. -/
theorem step_of_reset {s : State} {rest : List Input} {dac : Sample} (hc : s.cfg.WF) (hslot : s.slot ≠ .hostDone)
    (hin : s.inputs = .reset dac :: rest) :
    step s = .next (State.resetEdge dac { s with inputs := rest }) :=
  step_of_listed hc hin (decide_eq_false hslot)

/-- Settles O50: the step is the edge of the reset, whose state is made of the reset values, the memories empty. -/
theorem resetClearsEverything : Obligations.ResetClearsEverything := by
  intro s rest dac hc hslot hin
  exact ⟨_, step_of_reset hc hslot hin, by simp⟩

end Sys2Proof.Machine

/-! Words of the test vectors (95_test_vectors.md 2.1, 2.2): the checks of a decoder that reject a word (R97,
R103), and the words. -/

namespace Sys2Proof

theorem decodeD_of_reservedBits (c : Config) {d : Word} (hrsv : dRsv d ≠ 0) :
    decodeD c d = .error .reservedBits := if_pos hrsv

theorem decodeD_of_nextOutOfRange (c : Config) {d : Word} (hrsv : dRsv d = 0) (hnext : ¬ NextOk (dNext d)) :
    decodeD c d = .error .nextOutOfRange := by
  rw [decodeD, if_neg (not_not.mpr hrsv), if_pos hnext]

/-- The seven commands have the codes below 7 (R101). -/
theorem decodeCommand_of_reservedOp {w : Word} (hrsv : hRsv w = 0) (hop : 7 ≤ (hOp w).toNat) :
    decodeCommand w = .error .noSuchRow := by
  have hne {op : BitVec 4} (h7 : op.toNat < 7) : hOp w ≠ op := fun h => by
    rw [h] at hop
    omega
  rw [decodeCommand, if_neg (not_not.mpr hrsv)]
  iterate 7 rw [if_neg (hne (by decide))]

theorem decodeCommand_of_setPixel {w : Word} (hrsv : hRsv w = 0) (hop : hOp w = 3) :
    decodeCommand w = .ok (.setPixel (rotationOf (hRot w)) (hX w) (hY w) (hVal w)) :=
  (decodeCommand_ok_iff w _).mpr (.inr (.inr (.inr (.inl ⟨⟨hrsv, hop⟩, rfl⟩))))

/-- Settles O7: a legal descriptor word selects a row and meets its conditions, an illegal one fails the named
check; a command word goes by `OP` and `RSV`. -/
theorem specWordsDecode : Obligations.SpecWordsDecode := by
  refine ⟨?_, ?_, ?_, ?_, ?_, ?_, ?_, ?_⟩
  · exact (decodeD_ok_iff ..).mpr ⟨by decide, by decide⟩
  · exact decodeD_of_nextOutOfRange _ (by decide) (by decide)
  · exact (decodeD_ok_iff ..).mpr ⟨by decide, by decide⟩
  · exact (decodeD_ok_iff ..).mpr ⟨by decide, by decide⟩
  · exact decodeD_of_reservedBits _ (by decide)
  · exact decodeCommand_of_setPixel (by decide) (by decide)
  · exact decodeCommand_of_setPixel (by decide) (by decide)
  · exact decodeCommand_of_reservedOp (by decide) (by decide)

end Sys2Proof
